-- ==== Sys2Proof/Word.lean ====
section
/-! DEFINITION. The word types of the block and their plainest readings (spec/00_scope.md R7, R14). -/

namespace Sys2Proof

/-- One byte of a stream or buffer (20_memory.md R50). -/
abbrev Byte := BitVec 8

/-- A 32-bit operand or result register (00_scope.md R7). -/
abbrev Word32 := BitVec 32

/-- One host command word, CMD_W = 128 bits (30_encoding.md R70). -/
abbrev CmdWord := BitVec 128

/-- One frame on the wire, FRAME_N = 34 bytes (30_encoding.md R95). -/
abbrev Frame := Vector Byte 34

/-- The payload of one frame, PAYLOAD_N = 30 bytes (10_state.md R29). -/
abbrev Payload := Vector Byte 30

end Sys2Proof
end

