-- ==== Sys2Proof/Config.lean ====
section
/-! DEFINITION. What is fixed before reset and not by the spec: the OPEN parameters of
spec/00_scope.md R8 to R11 as constants without a body, and the free values (log 3, 6, 7). -/

namespace Sys2Proof

/-- Board family: it picks the base table of GEAR_LUT (00_scope.md R8, R9). -/
inductive Family where
  | m   -- "M-series"
  | ab  -- "A/B-series"
  deriving DecidableEq, Repr

/-- One gear equation, intercept and slope in thousandths, COEF_W = 32 bits signed
(00_scope.md R7, R8). -/
structure Coef where
  bMilli : Word32
  mMilli : Word32
  deriving DecidableEq, Repr, Inhabited

/-- One entry of BOARD_TABLE (00_scope.md R9). -/
structure Board where
  name          : String
  family        : Family
  lowLimitMilli : Option Word32
  noDiag        : Bool
  deriving DecidableEq, Repr

/-- The OPEN parameters of the hardware (00_scope.md R8 to R11), "fixed before reset"
(10_state.md R27). The codec is written over an arbitrary one, so that a property of it
holds for every table. `gearLutOpen` gives every entry of GEAR_LUT but the one the spec
states (`Params.gearLut`); gears 5 to 7 are no entries and are never looked up. -/
structure Params where
  gearLutOpen    : Family → BitVec 3 → Coef
  boardTable     : BitVec 4 → Option Board
  roundBiasMilli : Int
  diagCorr       : (ratioNano steps : Nat) → (negMMilli : Int) → (feedMilli : Nat) → Rat
  deriving Inhabited

/-- GEAR_LUT (00_scope.md R8): the one stated entry is `GEAR_LUT[M][1]`, the rest is OPEN. -/
def Params.gearLut (c : Params) (f : Family) (gear : BitVec 3) : Coef :=
  if f = .m ∧ gear = 1 then ⟨60416000, BitVec.ofInt 32 (-12120000)⟩ else c.gearLutOpen f gear

/-- The parameters this hardware was provisioned with (70_reset_and_hazards.md R283): OPEN in
the spec, so nothing is known of them here (log 3). -/
opaque Config.params : Params

/-- The default of ROUND_BIAS_MILLI (00_scope.md R10); the machine does not assume it. -/
def Config.roundBiasDefault : Int := 505

/-- The default instantiation of DiagCorr (00_scope.md R11); the machine does not assume it. -/
def Config.diagCorrDefault (ratioNano steps : Nat) (negMMilli : Int) (feedMilli : Nat) : Rat :=
  if feedMilli = 0 then 0
  else ((ratioNano * negMMilli * 25400 : Int) : Rat) / ((10 ^ 12 * feedMilli * steps : Nat) : Rat)

/-- Free value: the byte of a direction code that 30_encoding.md R81 gives no byte (0, 6, 7);
no run of the block writes it (log 7). -/
opaque Config.freeDirByte : BitVec 3 → Byte

/-- Free value: the byte of an x sub-direction code without a byte (0, 3) (log 7). -/
opaque Config.freeAxByte : BitVec 2 → Byte

/-- Free value: the byte of a y sub-direction code without a byte (0, 3) (log 7). -/
opaque Config.freeAyByte : BitVec 2 → Byte

/-- Free value: TOK[i] for `i ≥ TOKLEN` after the `k`-th SPDENC, "unspecified" by
10_state.md R28 (log 6). -/
opaque Config.freeTokByte : (k i : Nat) → Byte

end Sys2Proof
end

