-- ==== Sys2Proof/Machine/Operands.lean ====
section
/-! DEFINITION. How operands are read and results narrowed (spec/00_scope.md R14 to R17), and the
rounding of the codec (R10, R16). -/

namespace Sys2Proof.Machine

/-- `sext_32` (R14): the 32-bit pattern as a signed integer. -/
def sext32 (w : Word32) : Int := w.toInt

/-- `zext_n` (R14): the pattern as a natural number. -/
def zext {n : Nat} (w : BitVec n) : Nat := w.toNat

/-- `wrap_32` (R14): `x mod 2^32` as a 32-bit pattern. -/
def wrap32 (x : Int) : Word32 := BitVec.ofInt 32 x

/-- `sat_32` (R14): the integer clamped to the signed 32-bit range. -/
def sat32 (x : Int) : Int := max (-2147483648) (min x 2147483647)

/-- `RoundReg` (R10): `floor(v + ROUND_BIAS_MILLI/1000)`. -/
def roundReg (c : Params) (v : Rat) : Int := (v + (c.roundBiasMilli : Rat) / 1000).floor

/-- `RoundNearest` (R16): `floor(q + 1/2)`. -/
def roundNearest (q : Rat) : Int := (q + 1 / 2).floor

/-- An operand bit read as a truth value (30_encoding.md R74 to R77). -/
def bit (b : BitVec 1) : Bool := b == 1

end Sys2Proof.Machine
end

