-- ==== Sys2Proof/Machine/Format.lean ====
section
/-! DEFINITION. The output encodings of spec/30_encoding.md R80 to R95 and the number notation of
spec/00_scope.md R17: what the block writes into `S` and `F`, and how SPDDEC reads a token back. -/

namespace Sys2Proof.Machine

/-! ### Decimal notation (00_scope.md R17) -/

/-- The ASCII byte of a decimal digit. -/
def digitByte (d : Nat) : Byte := BitVec.ofNat 8 (0x30 + d)

/-- Is the byte one of `'0'..'9'`? -/
def isDigit (b : Byte) : Bool := decide (0x30 ≤ b.toNat ∧ b.toNat ≤ 0x39)

/-- `Dec1(n)`: the one byte `0x30 + n`, for `n ≤ 9`. -/
def dec1 (n : Nat) : List Byte := [digitByte n]

/-- `Dec3(n)`: the decimal digits of `n`, most significant first, padded with `'0'` to at least
three and never truncated. -/
def dec3 (n : Nat) : List Byte :=
  let ds := ((Nat.digits 10 n).map digitByte).reverse
  List.replicate (3 - ds.length) 0x30 ++ ds

/-- `Num(ds)`: the integer whose decimal digits are the byte list `ds`. -/
def num (ds : List Byte) : Nat := Nat.ofDigits 10 (ds.map fun b => b.toNat - 0x30).reverse

/-! ### Direction, sub-direction and laser bytes (R81, R82) -/

/-- `DirByte` (R81): `B` right, `T` left, `L` up, `R` down, `M` diagonal; the other codes have no
byte and answer a free value (log 7). -/
def dirByte (d : BitVec 3) : Byte :=
  if d = 1 then 0x42 else if d = 2 then 0x54 else if d = 3 then 0x4C
  else if d = 4 then 0x52 else if d = 5 then 0x4D else Config.freeDirByte d

/-- `AxByte` (R81); codes 0 and 3 have no byte (log 7). -/
def axByte (d : BitVec 2) : Byte :=
  if d = 1 then 0x42 else if d = 2 then 0x54 else Config.freeAxByte d

/-- `AyByte` (R81); codes 0 and 3 have no byte (log 7). -/
def ayByte (d : BitVec 2) : Byte :=
  if d = 1 then 0x4C else if d = 2 then 0x52 else Config.freeAyByte d

/-- `LaserByte` (R82): `D` on, `U` off. -/
def laserByte (l : BitVec 1) : Byte := if l = 1 then 0x44 else 0x55

/-! ### The distance code (30_encoding.md R84, R85; 41_motion_encoder.md R150) -/

/-- The remainder group of `EncodeDistance` (R150), for `r < 255`. -/
def remainderBytes (r : Nat) : List Byte :=
  if r = 0 then []
  else if r ≤ 25 then [BitVec.ofNat 8 (96 + r)]
  else if r ≤ 51 then [124, BitVec.ofNat 8 (96 + r - 25)]
  else dec3 r

/-- `EncodeDistance(n)` (R150): one byte 122 for each full 255 ticks, then the remainder. -/
def encodeDistance (n : Nat) : List Byte :=
  List.replicate (n / 255) 122 ++ remainderBytes (n % 255)

/-- `DecodeDistance` with a running total (R85): the ticks read and the bytes left. It stops where
the next byte is not in the alphabet of R84, or where a group is cut short (log 9). -/
def decodeDistanceFrom (total : Nat) : List Byte → Nat × List Byte
  | [] => (total, [])
  | b :: bs =>
    if b = 122 then decodeDistanceFrom (total + 255) bs
    else if 97 ≤ b.toNat ∧ b.toNat ≤ 121 then decodeDistanceFrom (total + (b.toNat - 96)) bs
    else if b = 124 then
      match bs with
      | c :: rest =>
        if 97 ≤ c.toNat ∧ c.toNat ≤ 122 then decodeDistanceFrom (total + (c.toNat - 96 + 25)) rest
        else (total, b :: bs)
      | [] => (total, b :: bs)
    else if isDigit b then
      match bs with
      | d1 :: d0 :: rest =>
        if isDigit d1 && isDigit d0 then decodeDistanceFrom (total + num [b, d1, d0]) rest
        else (total, b :: bs)
      | _ => (total, b :: bs)
    else (total, b :: bs)

/-- `DecodeDistance(bs)` (R85): the ticks a distance code stands for. -/
def decodeDistance (bs : List Byte) : Nat := (decodeDistanceFrom 0 bs).1

/-- The bytes of a run of direction `d` and `n` ticks (R86). -/
def runBytes (d : BitVec 3) (n : Nat) : List Byte := dirByte d :: encodeDistance n

/-! ### SpeedToken text (R88 to R92) -/

/-- The high group of a value field, `(V div 256) mod 2^24` (R89). -/
def valueHi (v : Int) : Nat := (v / 256 % 16777216).toNat

/-- The low group of a value field, `V mod 256` (R89). -/
def valueLo (v : Int) : Nat := (v % 256).toNat

/-- `EncodeValue(V)` (R89), with the 24-bit wrap the source calls load-bearing. -/
def encodeValue (v : Int) : List Byte := dec3 (valueHi v) ++ dec3 (valueLo v)

/-- Vector form (R90): `C V value gear`. -/
def tokenVectorBytes (v : Int) (gear : Nat) : List Byte :=
  0x43 :: 0x56 :: (encodeValue v ++ dec1 gear)

/-- Vector form with diagonal compensation (R91): `C V value gear steps value`. -/
def tokenDiagonalBytes (v : Int) (gear steps : Nat) (d : Int) : List Byte :=
  tokenVectorBytes v gear ++ (dec3 steps ++ encodeValue d)

/-- Raster form (R92): `V value gear G step`, with no leading `C`. -/
def tokenRasterBytes (v : Int) (gear rasterStep : Nat) : List Byte :=
  0x56 :: (encodeValue v ++ dec1 gear ++ 0x47 :: dec3 rasterStep)

/-! ### Reading a SpeedToken (30_encoding.md R93; 40_speed_codec.md R125 to R129) -/

/-- What SPDDEC finds in a token (R128). -/
structure TokenFields where
  value : Int
  gear  : Nat
  step  : Nat
  diag  : Int
  rstep : Nat
  deriving DecidableEq, Repr

/-- Does the number lie in the long form's range, `16,000,000 < n ≤ 16,777,215` (R126, R127)? -/
def inLongRange (n : Nat) : Bool := decide (16000000 < n ∧ n ≤ 16777215)

/-- `FieldLengths` (R126) on the digits before the `G` or the end; `none` is Malformed. -/
def fieldLengths (ds : List Byte) (raster : Bool) : Option (Nat × Nat) :=
  if ds.length = 7 then some (6, 0)
  else if ds.length = 12 then some (11, 0)
  else if raster then none
  else if ds.length = 16 then some (6, 6)
  else if ds.length = 26 then some (11, 11)
  else if ds.length = 21 then
    if inLongRange (num (ds.take 8)) then some (11, 6) else some (6, 11)
  else none

/-- `DecodeValue` (R127) on a field of 6 or 11 digits; `none` is Malformed. -/
def decodeValue (field : List Byte) : Option Int :=
  if field.length = 6 then
    let lo := num (field.drop 3)
    if lo ≤ 255 then some (256 * num (field.take 3) + lo) else none
  else
    let hi := num (field.take 8)
    let lo := num (field.drop 8)
    if lo ≤ 255 ∧ inLongRange hi = true then some (256 * ((hi : Int) - 16777216) + lo) else none

/-- The part of SPDDEC after the markers (R125): `ds` are the bytes before the `G` or the end,
`suffix` the bytes after the `G` where there is one. R125's indices are lists here (log 13). -/
def parseBody (ds : List Byte) (suffix : Option (List Byte)) : Option TokenFields :=
  if ds.all isDigit then
    (fieldLengths ds suffix.isSome).bind fun (l1, l2) =>
    (decodeValue (ds.take l1)).bind fun value =>
    let gd := num ((ds.drop l1).take 1)
    if 4 < gd then none
    else
      match suffix with
      | some r =>
        if r.length = 3 ∧ r.all isDigit = true then some ⟨value, gd, 0, 0, num r⟩ else none
      | none =>
        if l2 = 0 then some ⟨value, gd, 0, 0, 0⟩
        else
          (decodeValue ((ds.drop (l1 + 4)).take l2)).bind fun diag =>
          some ⟨value, gd, num ((ds.drop (l1 + 1)).take 3), diag, 0⟩
  else none

/-- One leading `C` is dropped (R125). -/
def dropLeadingC : List Byte → List Byte
  | [] => []
  | b :: bs => if b = 0x43 then bs else b :: bs

/-- One trailing `C` is dropped (R125). -/
def dropTrailingC (bs : List Byte) : List Byte :=
  if bs.getLast? = some 0x43 then bs.dropLast else bs

/-- SPDDEC's reading of the token text (R125); `none` is Malformed (R129). -/
def parseToken (t : List Byte) : Option TokenFields :=
  match dropLeadingC t with
  | [] => none
  | v :: rest =>
    if v = 0x56 then
      let body := dropTrailingC rest
      if 0x47 ∈ body then
        parseBody (body.takeWhile (· ≠ 0x47)) (some ((body.dropWhile (· ≠ 0x47)).drop 1))
      else parseBody body none
    else none

/-! ### CRC-8 and the frame (44_crc8_framer.md R215 to R218; 30_encoding.md R95) -/

/-- CRC_INIT (R217). -/
def crcInit : Byte := 0x00

/-- The iterations of `Crc8Byte` (R215), `k` of them. -/
def crc8Bits : (k : Nat) → (crc byte : Byte) → Byte
  | 0, crc, _ => crc
  | k + 1, crc, byte =>
    let mix := (crc ^^^ byte) &&& 1
    let crc := crc >>> 1
    let crc := if mix = 1 then crc ^^^ 0x8C else crc
    crc8Bits k crc (byte >>> 1)

/-- `Crc8Byte(crc, byte)` (R215). -/
def crc8Byte (crc byte : Byte) : Byte := crc8Bits 8 crc byte

/-- `Crc8(bs)` (R216). -/
def crc8 (bs : List Byte) : Byte := bs.foldl crc8Byte crcInit

/-- FILLER (00_scope.md R7). -/
def filler : Byte := 0x46

/-- MARK (00_scope.md R7). -/
def mark : Byte := 0xA6

/-- `Frame(p)` (R95): marker, zero, payload, marker, CRC over bytes 1 to 31. -/
def frameOf (p : Payload) : Frame :=
  (#v[mark, 0x00] ++ p ++ #v[mark, crc8 (0x00 :: p.toList)] : Vector Byte (2 + 30 + 2))

end Sys2Proof.Machine
end

