-- ==== Sys2Proof/Syntax.lean ====
section
/-! DEFINITION. The instructions: one constructor per row of spec/opcode_table.json.
The first 19 are what the command port decodes (30_encoding.md R70 to R79); the other 28 are the
table's rows of what the block WRITES (30_encoding.md R80 to R95), which no command word decodes
to (log 1). Operand fields keep the bit widths of R72 to R77. -/

namespace Sys2Proof

/-- One constructor per row of spec/opcode_table.json. -/
inductive Instr where
  -- commands (R71)
  | nop
  | jobrst
  | spdenc (board : BitVec 4) (fgv : BitVec 1) (fgear : BitVec 3) (rasterStep : BitVec 10)
      (feedMilli ratioNano : Word32)
  | spddec
  | v2s (value bMilli mMilli : Word32)
  | s2v (feedMilli bMilli mMilli : Word32)
  | gearsel (raster : BitVec 1) (feedMilli : Word32)
  | tokclr
  | tokput (byte : Byte)
  | tokemit
  | move (dir : BitVec 3) (laser : BitVec 1) (ax ay : BitVec 2) (distance : Word32)
  | flush
  | emit (byte : Byte)
  | dist (n : Word32)
  | line (laser : BitVec 1) (dx dy : Word32)
  | fclose
  | crcclr
  | crcupd (byte : Byte)
  /-- An `op` value that R71 does not list (R79). -/
  | reserved (op : BitVec 8)
  -- control bytes (R80)
  | ctrlI
  | ctrlS
  | ctrl1
  | ctrlE
  | ctrlN
  | ctrlR
  | ctrlL
  | ctrlB
  | ctrlF
  | ctrlAt
  -- direction and laser bytes (R81, R82)
  | dirRight
  | dirLeft
  | dirUp
  | dirDown
  | dirDiag
  | laserOn
  | laserOff
  -- distance groups (R84): `r` is the remainder in ticks
  | dist255
  | dist1to25 (r : Nat)
  | dist26to51 (r : Nat)
  | dist52to254 (r : Nat)
  | dist0
  /-- A run of direction `d` and `n` ticks (R86). -/
  | run (d : BitVec 3) (n : BitVec 31)
  -- SpeedToken forms (R89 to R92)
  | tokenVector (v : Int) (gear : BitVec 3)
  | tokenDiagonal (v : Int) (gear : BitVec 3) (steps : BitVec 10) (d : Int)
  | tokenRaster (v : Int) (gear : BitVec 3) (rasterStep : BitVec 10)
  | valueField (v : Int)
  /-- One frame with this payload (R95). -/
  | frame (payload : Payload)
  deriving DecidableEq, Repr

end Sys2Proof
end

