-- ==== Sys2Proof/WellFormed.lean ====
section
/-! DEFINITION. Which instructions the spec calls legal: 30_encoding.md R74, R76, R78, R79 for the
commands, the ranges of spec/opcode_table.json for the rows of the output. An ill-formed command is
still executed: it raises IllegalCommand (60_exceptions.md R253). -/

namespace Sys2Proof

/-- The `op` values of 30_encoding.md R71. -/
def opcodeMap : List (BitVec 8) :=
  [0x00, 0x01, 0x10, 0x11, 0x12, 0x13, 0x14, 0x18, 0x19, 0x1A,
   0x20, 0x21, 0x22, 0x23, 0x28, 0x30, 0x31, 0x32]

/-- Legal field values of MOVE (R74). -/
def moveFieldsLegal (dir : BitVec 3) (ax ay : BitVec 2) : Bool :=
  decide (dir ≠ 0 ∧ dir ≤ 5 ∧ ax ≠ 3 ∧ ay ≠ 3)

/-- Legal field values of SPDENC but for the board selector (R76). -/
def spdencFieldsLegal (fgv : BitVec 1) (fgear : BitVec 3) (rasterStep : BitVec 10) : Bool :=
  decide ((fgv = 1 → fgear ≤ 4) ∧ rasterStep ≤ 999)

/-- Well-formed instructions for given parameters (the board selector's legality is a matter of
BOARD_TABLE, 00_scope.md R9). A reserved `op` is one that R71 does not list. -/
def Instr.wellFormed (c : Params) : Instr → Bool
  | .spdenc board fgv fgear rstep _ _ =>
      (c.boardTable board).isSome && spdencFieldsLegal fgv fgear rstep
  | .move dir _ ax ay _ => moveFieldsLegal dir ax ay
  | .reserved op => decide (op ∉ opcodeMap)
  | .dist1to25 r => decide (1 ≤ r ∧ r ≤ 25)
  | .dist26to51 r => decide (26 ≤ r ∧ r ≤ 51)
  | .dist52to254 r => decide (52 ≤ r ∧ r ≤ 254)
  | .run d n => decide (1 ≤ d ∧ d ≤ 5 ∧ n ≠ 0)
  | .tokenVector _ gear => decide (gear ≤ 4)
  | .tokenDiagonal _ gear steps _ => decide (gear ≤ 4 ∧ 1 ≤ steps ∧ steps ≤ 128)
  | .tokenRaster _ gear rstep => decide (gear ≤ 4 ∧ 1 ≤ rstep ∧ rstep ≤ 999)
  | .nop | .jobrst | .spddec | .v2s _ _ _ | .s2v _ _ _ | .gearsel _ _ | .tokclr | .tokput _
  | .tokemit | .flush | .emit _ | .dist _ | .line _ _ _ | .fclose | .crcclr | .crcupd _
  | .ctrlI | .ctrlS | .ctrl1 | .ctrlE | .ctrlN | .ctrlR | .ctrlL | .ctrlB | .ctrlF | .ctrlAt
  | .dirRight | .dirLeft | .dirUp | .dirDown | .dirDiag | .laserOn | .laserOff
  | .dist255 | .dist0 | .valueField _ | .frame _ => true

/-- The instructions the command port can decode: the 18 commands and RESERVED (30_encoding.md
R71, R79). The other rows of the table are output (log 1). -/
def Instr.isCommand : Instr → Bool
  | .nop | .jobrst | .spdenc _ _ _ _ _ _ | .spddec | .v2s _ _ _ | .s2v _ _ _ | .gearsel _ _
  | .tokclr | .tokput _ | .tokemit | .move _ _ _ _ _ | .flush | .emit _ | .dist _ | .line _ _ _
  | .fclose | .crcclr | .crcupd _ | .reserved _ => true
  | .ctrlI | .ctrlS | .ctrl1 | .ctrlE | .ctrlN | .ctrlR | .ctrlL | .ctrlB | .ctrlF | .ctrlAt
  | .dirRight | .dirLeft | .dirUp | .dirDown | .dirDiag | .laserOn | .laserOff
  | .dist255 | .dist1to25 _ | .dist26to51 _ | .dist52to254 _ | .dist0 | .run _ _
  | .tokenVector _ _ | .tokenDiagonal _ _ _ _ | .tokenRaster _ _ _ | .valueField _
  | .frame _ => false

end Sys2Proof
end

