-- ==== Sys2Proof/Decode.lean ====
section
/-! DEFINITION. The decoder of the command port and its encoder (spec/30_encoding.md R70 to R79),
and the bytes of the table's output rows (R80 to R95). Every 128-bit word has an instruction: an
unlisted `op` is `Instr.reserved`, which raises IllegalCommand by name (R79). -/

namespace Sys2Proof

/-! ### Fields of the command word (R70) -/

/-- `w[lo+len-1 : lo]` (00_scope.md R14). -/
def bits (w : CmdWord) (lo len : Nat) : BitVec len := w.extractLsb' lo len

/-- `op = w[127:120]`. -/
def opField (w : CmdWord) : BitVec 8 := bits w 120 8

/-- `a0 = w[95:64]`. -/
def a0Field (w : CmdWord) : Word32 := bits w 64 32

/-- `a1 = w[63:32]`. -/
def a1Field (w : CmdWord) : Word32 := bits w 32 32

/-- `a2 = w[31:0]`. -/
def a2Field (w : CmdWord) : Word32 := bits w 0 32

/-- Format B's byte, `w[103:96]` (R73). -/
def byteField (w : CmdWord) : Byte := bits w 96 8

/-- The instruction of a command word (R71 to R79). Ignored fields are not read. -/
def decode (w : CmdWord) : Instr :=
  match opField w with
  | 0x00#8 => .nop
  | 0x01#8 => .jobrst
  | 0x10#8 => .spdenc (bits w 96 4) (bits w 100 1) (bits w 101 3) (bits w 104 10) (a0Field w) (a1Field w)
  | 0x11#8 => .spddec
  | 0x12#8 => .v2s (a0Field w) (a1Field w) (a2Field w)
  | 0x13#8 => .s2v (a0Field w) (a1Field w) (a2Field w)
  | 0x14#8 => .gearsel (bits w 96 1) (a0Field w)
  | 0x18#8 => .tokclr
  | 0x19#8 => .tokput (byteField w)
  | 0x1A#8 => .tokemit
  | 0x20#8 => .move (bits w 96 3) (bits w 99 1) (bits w 100 2) (bits w 102 2) (a0Field w)
  | 0x21#8 => .flush
  | 0x22#8 => .emit (byteField w)
  | 0x23#8 => .dist (a0Field w)
  | 0x28#8 => .line (bits w 96 1) (a0Field w) (a1Field w)
  | 0x30#8 => .fclose
  | 0x31#8 => .crcclr
  | 0x32#8 => .crcupd (byteField w)
  | op => .reserved op

/-- What the host asks of the decoder: the instruction of the word whose low `nbits` bits are those
of `w` and whose other bits are 0. The word is presented in parallel (20_memory.md R53; log 12). -/
def decodeTableWord (nbits w : Nat) : Option Instr :=
  some (decode (BitVec.ofNat 128 (w % 2 ^ nbits)))

/-! ### The encoder -/

/-- A command word from its five fields (R70). -/
def assembleWord (op : BitVec 8) (f : BitVec 24) (a0 a1 a2 : Word32) : CmdWord :=
  op ++ f ++ a0 ++ a1 ++ a2

/-- The command word of an instruction, ignored fields 0 ("a host should write zero there", R79).
The output rows have no command word (log 1), nor has `reserved op` for a listed `op`. -/
def encode : Instr → Option CmdWord
  | .nop => some (assembleWord 0x00 0 0 0 0)
  | .jobrst => some (assembleWord 0x01 0 0 0 0)
  | .spdenc board fgv fgear rstep feed ratio =>
      some (assembleWord 0x10 (0#6 ++ rstep ++ fgear ++ fgv ++ board) feed ratio 0)
  | .spddec => some (assembleWord 0x11 0 0 0 0)
  | .v2s value b m => some (assembleWord 0x12 0 value b m)
  | .s2v feed b m => some (assembleWord 0x13 0 feed b m)
  | .gearsel raster feed => some (assembleWord 0x14 (0#23 ++ raster) feed 0 0)
  | .tokclr => some (assembleWord 0x18 0 0 0 0)
  | .tokput byte => some (assembleWord 0x19 (0#16 ++ byte) 0 0 0)
  | .tokemit => some (assembleWord 0x1A 0 0 0 0)
  | .move dir laser ax ay distance =>
      some (assembleWord 0x20 (0#16 ++ ay ++ ax ++ laser ++ dir) distance 0 0)
  | .flush => some (assembleWord 0x21 0 0 0 0)
  | .emit byte => some (assembleWord 0x22 (0#16 ++ byte) 0 0 0)
  | .dist n => some (assembleWord 0x23 0 n 0 0)
  | .line laser dx dy => some (assembleWord 0x28 (0#23 ++ laser) dx dy 0)
  | .fclose => some (assembleWord 0x30 0 0 0 0)
  | .crcclr => some (assembleWord 0x31 0 0 0 0)
  | .crcupd byte => some (assembleWord 0x32 (0#16 ++ byte) 0 0 0)
  | .reserved op => if op ∈ opcodeMap then none else some (assembleWord op 0 0 0 0)
  | .ctrlI | .ctrlS | .ctrl1 | .ctrlE | .ctrlN | .ctrlR | .ctrlL | .ctrlB | .ctrlF | .ctrlAt
  | .dirRight | .dirLeft | .dirUp | .dirDown | .dirDiag | .laserOn | .laserOff
  | .dist255 | .dist1to25 _ | .dist26to51 _ | .dist52to254 _ | .dist0 | .run _ _
  | .tokenVector _ _ | .tokenDiagonal _ _ _ _ | .tokenRaster _ _ _ | .valueField _
  | .frame _ => none

/-- The bits of the command word that an instruction reads, by its format (R72 to R77); a RESERVED
word reads `op` only (R253). The rows of the output have no command word. -/
def usedBits : Instr → CmdWord
  | .spdenc _ _ _ _ _ _ => 0xFF03FFFFFFFFFFFFFFFFFFFF00000000
  | .v2s _ _ _ | .s2v _ _ _ => 0xFF000000FFFFFFFFFFFFFFFFFFFFFFFF
  | .gearsel _ _ => 0xFF000001FFFFFFFF0000000000000000
  | .tokput _ | .emit _ | .crcupd _ => 0xFF0000FF000000000000000000000000
  | .move _ _ _ _ _ => 0xFF0000FFFFFFFFFF0000000000000000
  | .dist _ => 0xFF000000FFFFFFFF0000000000000000
  | .line _ _ _ => 0xFF000001FFFFFFFFFFFFFFFF00000000
  | .nop | .jobrst | .spddec | .tokclr | .tokemit | .flush | .fclose | .crcclr
  | .reserved _ => 0xFF000000000000000000000000000000
  | .ctrlI | .ctrlS | .ctrl1 | .ctrlE | .ctrlN | .ctrlR | .ctrlL | .ctrlB | .ctrlF | .ctrlAt
  | .dirRight | .dirLeft | .dirUp | .dirDown | .dirDiag | .laserOn | .laserOff
  | .dist255 | .dist1to25 _ | .dist26to51 _ | .dist52to254 _ | .dist0 | .run _ _
  | .tokenVector _ _ | .tokenDiagonal _ _ _ _ | .tokenRaster _ _ _ | .valueField _
  | .frame _ => 0

/-- The bytes of an output row, as spec/opcode_table.json's "encoding" gives them (R80 to R95);
`none` for a command. -/
def outputBytes : Instr → Option (List Byte)
  | .ctrlI => some [0x49]
  | .ctrlS => some [0x53]
  | .ctrl1 => some [0x31]
  | .ctrlE => some [0x45]
  | .ctrlN => some [0x4E]
  | .ctrlR => some [0x52]
  | .ctrlL => some [0x4C]
  | .ctrlB => some [0x42]
  | .ctrlF => some [0x46]
  | .ctrlAt => some [0x40]
  | .dirRight => some [0x42]
  | .dirLeft => some [0x54]
  | .dirUp => some [0x4C]
  | .dirDown => some [0x52]
  | .dirDiag => some [0x4D]
  | .laserOn => some [0x44]
  | .laserOff => some [0x55]
  | .dist255 => some [0x7A]
  | .dist1to25 r => some [BitVec.ofNat 8 (0x61 + (r - 1))]
  | .dist26to51 r => some [0x7C, BitVec.ofNat 8 (0x61 + (r - 26))]
  | .dist52to254 r => some (Machine.dec3 r)
  | .dist0 => some []
  | .run d n => some (Machine.runBytes d n.toNat)
  | .tokenVector v gear => some (Machine.tokenVectorBytes v gear.toNat)
  | .tokenDiagonal v gear steps d =>
      some (Machine.tokenDiagonalBytes v gear.toNat steps.toNat d)
  | .tokenRaster v gear rstep => some (Machine.tokenRasterBytes v gear.toNat rstep.toNat)
  | .valueField v => some (Machine.encodeValue v)
  | .frame p => some (Machine.frameOf p).toList
  | .nop | .jobrst | .spdenc _ _ _ _ _ _ | .spddec | .v2s _ _ _ | .s2v _ _ _ | .gearsel _ _
  | .tokclr | .tokput _ | .tokemit | .move _ _ _ _ _ | .flush | .emit _ | .dist _ | .line _ _ _
  | .fclose | .crcclr | .crcupd _ | .reserved _ => none

/-! ### Reading an output row back

The bytes of an output item do not say what it is: `B`, `L`, `R`, `F` and the digits have two
meanings (R83, R85). A reader that knows the class of the item, the table's "format", can read it.
No rule of the block does so but SPDDEC; these functions serve the round trips (log 1). -/

/-- The classes of output rows, the table's "format" out.control to out.frame; the value field,
which the table lists under out.token, is a class of its own. -/
inductive OutClass where
  | control | direction | laser | distance | run | token | value | frame
  deriving DecidableEq, Repr

/-- The class of an output row; `none` for a command. -/
def outClass : Instr → Option OutClass
  | .ctrlI | .ctrlS | .ctrl1 | .ctrlE | .ctrlN | .ctrlR | .ctrlL | .ctrlB | .ctrlF
  | .ctrlAt => some .control
  | .dirRight | .dirLeft | .dirUp | .dirDown | .dirDiag => some .direction
  | .laserOn | .laserOff => some .laser
  | .dist255 | .dist1to25 _ | .dist26to51 _ | .dist52to254 _ | .dist0 => some .distance
  | .run _ _ => some .run
  | .tokenVector _ _ | .tokenDiagonal _ _ _ _ | .tokenRaster _ _ _ => some .token
  | .valueField _ => some .value
  | .frame _ => some .frame
  | .nop | .jobrst | .spdenc _ _ _ _ _ _ | .spddec | .v2s _ _ _ | .s2v _ _ _ | .gearsel _ _
  | .tokclr | .tokput _ | .tokemit | .move _ _ _ _ _ | .flush | .emit _ | .dist _ | .line _ _ _
  | .fclose | .crcclr | .crcupd _ | .reserved _ => none

/-- The control byte's row (R80). -/
def decodeControl (b : Byte) : Option Instr :=
  match b with
  | 0x49#8 => some .ctrlI
  | 0x53#8 => some .ctrlS
  | 0x31#8 => some .ctrl1
  | 0x45#8 => some .ctrlE
  | 0x4E#8 => some .ctrlN
  | 0x52#8 => some .ctrlR
  | 0x4C#8 => some .ctrlL
  | 0x42#8 => some .ctrlB
  | 0x46#8 => some .ctrlF
  | 0x40#8 => some .ctrlAt
  | _ => none

/-- The direction code of a direction byte (R81); 0 where the byte is none. -/
def dirCode (b : Byte) : BitVec 3 :=
  match b with
  | 0x42#8 => 1
  | 0x54#8 => 2
  | 0x4C#8 => 3
  | 0x52#8 => 4
  | 0x4D#8 => 5
  | _ => 0

/-- The direction byte's row (R81). -/
def decodeDirection (b : Byte) : Option Instr :=
  match b with
  | 0x42#8 => some .dirRight
  | 0x54#8 => some .dirLeft
  | 0x4C#8 => some .dirUp
  | 0x52#8 => some .dirDown
  | 0x4D#8 => some .dirDiag
  | _ => none

/-- The laser byte's row (R82). -/
def decodeLaser (b : Byte) : Option Instr :=
  match b with
  | 0x44#8 => some .laserOn
  | 0x55#8 => some .laserOff
  | _ => none

/-- One distance group's row (R84). -/
def decodeGroup (bs : List Byte) : Option Instr :=
  match bs with
  | [] => some .dist0
  | [b] =>
    if b = 122 then some .dist255
    else if 97 ≤ b.toNat ∧ b.toNat ≤ 121 then some (.dist1to25 (b.toNat - 96)) else none
  | [e, b] =>
    if e = 124 ∧ 97 ≤ b.toNat ∧ b.toNat ≤ 122 then some (.dist26to51 (b.toNat - 96 + 25)) else none
  | [d2, d1, d0] =>
    let n := Machine.num [d2, d1, d0]
    if [d2, d1, d0].all Machine.isDigit = true ∧ 52 ≤ n ∧ n ≤ 254 then some (.dist52to254 n) else none
  | _ => none

/-- A run's row (R86): a direction byte, then a distance code that ends with the bytes. -/
def decodeRun (bs : List Byte) : Option Instr :=
  match bs with
  | [] => none
  | b :: rest =>
    let (n, left) := Machine.decodeDistanceFrom 0 rest
    if dirCode b ≠ 0 ∧ left = [] ∧ 0 < n ∧ n < 2 ^ 31 then
      some (.run (dirCode b) (BitVec.ofNat 31 n))
    else none

/-- A token's row (R90 to R92), by SPDDEC's reading and by which of the three forms writes exactly
these bytes. -/
def decodeToken (bs : List Byte) : Option Instr :=
  (Machine.parseToken bs).bind fun t =>
  [Instr.tokenVector t.value (BitVec.ofNat 3 t.gear),
   .tokenDiagonal t.value (BitVec.ofNat 3 t.gear) (BitVec.ofNat 10 t.step) t.diag,
   .tokenRaster t.value (BitVec.ofNat 3 t.gear) (BitVec.ofNat 10 t.rstep)].find?
    fun i => outputBytes i == some bs

/-- A value field's row (R89, R127). -/
def decodeValueField (bs : List Byte) : Option Instr :=
  if (bs.length = 6 ∨ bs.length = 11) ∧ bs.all Machine.isDigit = true then
    (Machine.decodeValue bs).map .valueField
  else none

/-- A frame's row (R95): 34 bytes with the markers and the right CRC. -/
def decodeFrame (bs : List Byte) : Option Instr :=
  let p : Payload := Vector.ofFn fun i => bs.getD (i + 2) 0
  if bs = (Machine.frameOf p).toList then some (.frame p) else none

/-- The row that an item of a known class stands for; the reader is the model's own, the block never
parses its output (30_encoding.md R83; log 1). -/
def decodeOutput (c : OutClass) (bs : List Byte) : Option Instr :=
  match c, bs with
  | .control, [b] => decodeControl b
  | .direction, [b] => decodeDirection b
  | .laser, [b] => decodeLaser b
  | .distance, bs => decodeGroup bs
  | .run, bs => decodeRun bs
  | .token, bs => decodeToken bs
  | .value, bs => decodeValueField bs
  | .frame, bs => decodeFrame bs
  | _, _ => none

end Sys2Proof
end

