-- ==== Sys2Proof/Machine/State.lean ====
section
/-! DEFINITION. The state of the block (spec/10_state.md R20 to R36), as plain data, and what it is
after hardware reset. -/

namespace Sys2Proof.Machine

/-- Everything the block holds (10_state.md R20). The last three fields are the model's own
(log 2, 6). -/
@[ext]
structure State where
  /-- MDIR (R21): 0 none, 1 right, 2 left, 3 up, 4 down, 5 diagonal. -/
  mDir : BitVec 3
  /-- MDIST (R21): ticks of the pending run; 0 means no run is pending. -/
  mDist : BitVec 31
  /-- MLASER (R21): laser state last written to `S`. -/
  mLaser : BitVec 1
  /-- MAX (R21): x sub-direction last written, 0 none, 1 right, 2 left. -/
  mAx : BitVec 2
  /-- MAY (R21): y sub-direction last written, 0 none, 1 up, 2 down. -/
  mAy : BitVec 2
  /-- RV (R22): register value, signed. -/
  rv : Word32
  /-- RG (R22): gear. -/
  rg : BitVec 3
  /-- RS (R22): diagonal step count. -/
  rs : BitVec 10
  /-- RD (R22): diagonal correction value, signed. -/
  rd : Word32
  /-- RR (R22): raster step. -/
  rr : BitVec 10
  /-- RSPD (R22): speed in thousandths of a unit per second, signed. -/
  rspd : Word32
  /-- FAULT (R25): 0 none, else the cause. -/
  fault : BitVec 3
  /-- FINFO (R26): the information word recorded with the fault. -/
  finfo : Word32
  /-- TOK (R28). -/
  tok : Vector Byte 32
  /-- TOKLEN (R28). -/
  tokLen : BitVec 6
  /-- FBUF (R29). -/
  fbuf : Payload
  /-- FCNT (R29). -/
  fcnt : BitVec 5
  /-- RCRC (R30). -/
  rcrc : Byte
  /-- `S` (R31): the EGV byte stream, oldest byte first. -/
  egv : List Byte
  /-- `F` (R31): the frame stream, oldest frame first. -/
  frames : List Frame
  /-- The model's: command words presented and not yet taken, next one first (R23; log 2). -/
  queue : List CmdWord
  /-- The model's: command words taken so far, oldest first; the position of R23 is its length
  (log 2). -/
  history : List CmdWord
  /-- The model's: how many batches of free TOK bytes have been drawn (log 6). -/
  freeIdx : Nat
  deriving DecidableEq, Repr

/-- Reasons for which the machine stops: NONE. "every command word has a next state"
(93_implementation_defined.md): the block's own faults are its registers FAULT and FINFO
(60_exceptions.md R255), after which it goes on. -/
inductive Fault where
  deriving DecidableEq, Repr

/-- Reasons for which an instruction has no meaning in this model. -/
inductive Refusal where
  /-- Raised by `exec` for a row of the opcode table that has no meaning yet; safe. No arm uses it
  now: every row has its meaning. -/
  | notModelled (mnemonic : String)
  deriving DecidableEq, Repr

/-- The block after hardware reset (10_state.md R36, 70_reset_and_hazards.md R280, R281). It is the result
of the reset input, which is no step (log 4). The bytes
of TOK and FBUF, which R36 leaves unspecified, are 0 (DESIGN CHOICE, log 5), and so is `freeIdx`
(log 6). -/
def State.reset : State where
  mDir := 0
  mDist := 0
  mLaser := 0
  mAx := 0
  mAy := 0
  rv := 0
  rg := 0
  rs := 0
  rd := 0
  rr := 0
  rspd := 0
  fault := 0
  finfo := 0
  tok := Vector.replicate 32 0
  tokLen := 0
  fbuf := Vector.replicate 30 0
  fcnt := 0
  rcrc := 0
  egv := []
  frames := []
  queue := []
  history := []
  freeIdx := 0

end Sys2Proof.Machine
end

