-- ==== Sys2Proof/Machine/Flags.lean ====
section
/-! DEFINITION. What acts as a flag (spec/10_state.md R24): the fault condition and the laser bit;
the event output (60_exceptions.md R261) and the status port (10_state.md R35). No arithmetic
result sets a flag. -/

namespace Sys2Proof.Machine

/-- The fault condition `FAULT ≠ 0` (R24, R256). -/
def State.faulted (s : State) : Bool := decide (s.fault ≠ 0)

/-- The level output `fault_o` (60_exceptions.md R261). -/
def State.faultO (s : State) : Bool := s.faulted

/-- Is a run pending (10_state.md R32, 41_motion_encoder.md R153)? -/
def State.runPending (s : State) : Bool := decide (s.mDist ≠ 0)

/-- What the host reads on the status port (10_state.md R35): every register and buffer of R21 to
R30. -/
structure StatusPort where
  mdir   : BitVec 3
  mdist  : BitVec 31
  mlaser : BitVec 1
  max    : BitVec 2
  may    : BitVec 2
  rv     : Word32
  rg     : BitVec 3
  rs     : BitVec 10
  rd     : Word32
  rr     : BitVec 10
  rspd   : Word32
  fault  : BitVec 3
  finfo  : Word32
  tok    : Vector Byte 32
  toklen : BitVec 6
  fbuf   : Payload
  fcnt   : BitVec 5
  rcrc   : Byte
  deriving DecidableEq, Repr

/-- Reading the status port (10_state.md R35): a function of the state, without side effect. -/
def State.statusPort (s : State) : StatusPort :=
  { mdir := s.mDir, mdist := s.mDist, mlaser := s.mLaser, max := s.mAx, may := s.mAy,
    rv := s.rv, rg := s.rg, rs := s.rs, rd := s.rd, rr := s.rr, rspd := s.rspd,
    fault := s.fault, finfo := s.finfo, tok := s.tok, toklen := s.tokLen, fbuf := s.fbuf,
    fcnt := s.fcnt, rcrc := s.rcrc }

end Sys2Proof.Machine
end

