-- ==== Sys2Proof/Machine/Ops.lean ====
section
/-! DEFINITION. The shared operations: running a command with its faults (spec/60_exceptions.md
R255, R256), leaving the faulted condition (45_system.md R236), the streams and buffers
(20_memory.md R56; 44_crc8_framer.md R218), the routines of the motion encoder
(41_motion_encoder.md R152, R153), and taking a command word (10_state.md R23). -/

namespace Sys2Proof.Machine

/-- The answer of `exec` and `step`. -/
abbrev Result := Host.Outcome State Fault Refusal

/-! ### Commands and faults -/

/-- The four fault causes and their codes (10_state.md R25; 60_exceptions.md R250 to R253). -/
inductive Cause where
  | invalidDistance
  | reconstructionMismatch
  | malformedToken
  | illegalCommand
  deriving DecidableEq, Repr

/-- The FAULT code of a cause (10_state.md R25). -/
def Cause.code : Cause → BitVec 3
  | .invalidDistance => 1
  | .reconstructionMismatch => 2
  | .malformedToken => 3
  | .illegalCommand => 4

/-- A command in progress: it goes on with a value and a state, or a `raise` has ended it. -/
inductive Flow (α : Type) where
  | go (a : α) (s : State)
  | ended (s : State)

/-- The next line of a command's pseudocode; "no later line of its pseudocode runs" after a raise
(60_exceptions.md R255). -/
def Flow.bind {α β : Type} (x : Flow α) (f : α → State → Flow β) : Flow β :=
  match x with
  | .go a s => f a s
  | .ended s => .ended s

/-- The state a command leaves. -/
def Flow.state {α : Type} : Flow α → State
  | .go _ s => s
  | .ended s => s

/-- Taking a fault (60_exceptions.md R255, R259): the first cause is kept, the command ends. -/
def raise {α : Type} (c : Cause) (info : Int) (s : State) : Flow α :=
  .ended (if s.fault = 0 then { s with fault := c.code, finfo := wrap32 info } else s)

/-- Every command but JOBRST begins with the test of FAULT: when it is not 0 the command is refused
without effect (60_exceptions.md R256). -/
def runCommand (body : State → Flow Unit) (s : State) : Result :=
  .next (if s.faulted then s else (body s).state)

/-- Leaving the faulted condition (60_exceptions.md R262): the job reset of 45_system.md R236. -/
def jobReset (s : State) : State :=
  { s with
    mDir := 0, mDist := 0, mLaser := 0, mAx := 0, mAy := 0,
    rv := 0, rg := 0, rs := 0, rd := 0, rr := 0, rspd := 0,
    tokLen := 0, fcnt := 0, rcrc := 0, fault := 0, finfo := 0 }

/-! ### The command port -/

/-- The word the block takes next, where one is presented (10_state.md R23; log 2). -/
def State.fetch (s : State) : Option CmdWord := s.queue.head?

/-- Taking the next word: it leaves the queue and joins the history, so that the position of
10_state.md R23 advances by one (log 2). -/
def State.consume (s : State) : State :=
  { s with queue := s.queue.tail, history := s.history ++ s.queue.take 1 }

/-- The position in the program (10_state.md R23). -/
def State.position (s : State) : Nat := s.history.length

/-! ### The streams and the frame buffer -/

/-- `EmitFrame()` (44_crc8_framer.md R218): the frame of FBUF is appended to `F`, FCNT becomes 0. -/
def emitFrame (s : State) : State :=
  { s with frames := s.frames ++ [frameOf s.fbuf], fcnt := 0 }

/-- The first three lines of `Emit(b)` (20_memory.md R56). An FCNT of 30 or 31, never held, writes no
byte of FBUF (log 8). -/
def appendByte (b : Byte) (s : State) : State :=
  { s with egv := s.egv ++ [b], fbuf := s.fbuf.setIfInBounds s.fcnt.toNat b, fcnt := s.fcnt + 1 }

/-- `Emit(b)` (20_memory.md R56). -/
def emit (b : Byte) (s : State) : State :=
  let s1 := appendByte b s
  if s1.fcnt = 30 then emitFrame s1 else s1

/-- `Emit(list)` (20_memory.md R56): each element, first element first. -/
def emitList (bs : List Byte) (s : State) : State := bs.foldl (fun s b => emit b s) s

/-- FILLER into the unused slots of FBUF, FCNT 30 (44_crc8_framer.md R220). -/
def padFrame (s : State) : State :=
  { s with
    fbuf := Vector.ofFn fun i => if i.val < s.fcnt.toNat then s.fbuf[i] else filler,
    fcnt := 30 }

/-- Closing the partial frame (44_crc8_framer.md R220): the frame is padded and emitted; nothing
happens when FCNT is 0. -/
def closeFrame (s : State) : State := if s.fcnt = 0 then s else emitFrame (padFrame s)

/-! ### The token buffer -/

/-- `MemRead(TOK, 0, TOKLEN)` (00_scope.md R17). -/
def State.tokenText (s : State) : List Byte := s.tok.toList.take s.tokLen.toNat

/-- `MemWrite(TOK, 0, len, bs); TOKLEN <- len` (40_speed_codec.md R110). The bytes at and above the
new TOKLEN are unspecified (10_state.md R28): fresh free values (log 6). -/
def writeToken (bs : List Byte) (s : State) : State :=
  { s with
    tok := Vector.ofFn fun i => bs.getD i (Config.freeTokByte s.freeIdx i),
    tokLen := BitVec.ofNat 6 bs.length,
    freeIdx := s.freeIdx + 1 }

/-- `TOK[TOKLEN] <- byte; TOKLEN <- TOKLEN + 1` (40_speed_codec.md R136). A TOKLEN above 32, never
held, writes no byte (log 8). -/
def pushToken (b : Byte) (s : State) : State :=
  { s with tok := s.tok.setIfInBounds s.tokLen.toNat b, tokLen := s.tokLen + 1 }

/-! ### The routines of the motion encoder -/

/-- The bytes `Flush()` emits (41_motion_encoder.md R153). -/
def State.flushBytes (s : State) : List Byte :=
  if s.mDist = 0 then [] else runBytes s.mDir s.mDist.toNat

/-- `Flush()` (41_motion_encoder.md R153). -/
def flush (s : State) : State := { emitList s.flushBytes s with mDist := 0 }

/-- The laser byte where the laser changes, and MLASER (41_motion_encoder.md R152). -/
def setLaser (laser : BitVec 1) (s : State) : State :=
  if laser ≠ s.mLaser then { emit (laserByte laser) s with mLaser := laser } else s

/-- The x sub-direction byte where it changes, and MAX (41_motion_encoder.md R152). -/
def setAx (ax : BitVec 2) (s : State) : State :=
  if ax ≠ s.mAx then { emit (axByte ax) s with mAx := ax } else s

/-- The y sub-direction byte where it changes, and MAY (41_motion_encoder.md R152). -/
def setAy (ay : BitVec 2) (s : State) : State :=
  if ay ≠ s.mAy then { emit (ayByte ay) s with mAy := ay } else s

/-- A cardinal run sets the sub-direction of its own axis (41_motion_encoder.md R154). -/
def latchAxis (dir : BitVec 3) (s : State) : State :=
  if dir = 1 then { s with mAx := 1 }
  else if dir = 2 then { s with mAx := 2 }
  else if dir = 3 then { s with mAy := 1 }
  else if dir = 4 then { s with mAy := 2 }
  else s

/-- The "otherwise" branch of `Move` (41_motion_encoder.md R152): flush, emit what changed, start a
new run. -/
def startRun (dir : BitVec 3) (dist : Int) (laser : BitVec 1) (rax ray : BitVec 2) (s : State) :
    State :=
  latchAxis dir
    { setAy ray (setAx rax (setLaser laser (flush s))) with
      mDir := dir, mDist := BitVec.ofInt 31 dist }

/-- A sub-direction operand with 0 meaning "keep the modal value" (30_encoding.md R74). -/
def keepOr (operand modal : BitVec 2) : BitVec 2 := if operand = 0 then modal else operand

/-- `Move(dir, dist, laser, ax, ay)` (41_motion_encoder.md R152). -/
def move (dir : BitVec 3) (dist : Int) (laser : BitVec 1) (ax ay : BitVec 2) (s : State) :
    Flow Unit :=
  if dist < 0 then raise .invalidDistance dist s
  else
    let rax := keepOr ax s.mAx
    let ray := keepOr ay s.mAy
    if dir = s.mDir ∧ laser = s.mLaser ∧ rax = s.mAx ∧ ray = s.mAy then
      if (s.mDist.toNat : Int) + dist > 2147483647 then raise .invalidDistance dist s
      else .go () { s with mDist := BitVec.ofInt 31 (s.mDist.toNat + dist) }
    else .go () (startRun dir dist laser rax ray s)

end Sys2Proof.Machine
end

