-- ==== Sys2Proof/Machine/Codec.lean ====
section
/-! DEFINITION. The speed_codec unit (spec/40_speed_codec.md R110 to R137): SPDENC, SPDDEC, V2S, S2V,
GEARSEL, TOKCLR, TOKPUT, TOKEMIT. The functions take the parameters `c : Params` as an argument
(00_scope.md R8 to R11); the commands use `Config.params`. -/

namespace Sys2Proof.Machine

/-! ### Feed rate to register value -/

/-- `ClampFeed(F, raster)` (R111). -/
def clampFeed (feed : Nat) (raster : Bool) : Nat :=
  if feed > 240000 ∧ raster = false then 19050 else feed

/-- `GearFor(F, raster)` (R113). -/
def gearFor (feed : Nat) (raster : Bool) : BitVec 3 :=
  if feed ≤ 25400 then 1
  else if feed ≤ 60000 then 2
  else if raster then (if feed < 127000 then 2 else if feed ≤ 320000 then 3 else 4)
  else (if feed < 127000 then 3 else 4)

/-- Is the feed below the board's low-speed threshold, strictly (R115)? -/
def belowLowLimit (bt : Board) (feed : Nat) : Bool :=
  match bt.lowLimitMilli with
  | some l => decide (feed < l.toNat)
  | none => false

/-- `Coef(bt, gear, F)` (R114, R115): the override takes the gear-0 pair. -/
def coefFor (c : Params) (bt : Board) (gear : BitVec 3) (feed : Nat) : Coef :=
  if belowLowLimit bt feed then c.gearLut bt.family 0 else c.gearLut bt.family gear

/-- `LinValue(F, b_milli, m_milli)` (R116): `b + m * 25.4 / F`, the intercept for `F = 0`. -/
def linValue (feed : Nat) (bMilli mMilli : Int) : Rat :=
  if feed = 0 then (bMilli : Rat) / 1000
  else (bMilli : Rat) / 1000 + (mMilli : Rat) / 1000 * (25400 / (feed : Rat))

/-- The step count (R120). -/
def stepCount (feed : Nat) : Nat := min (feed / 1000 + 1) 128

/-- What SPDENC computes (R110). -/
structure SpeedToken where
  text  : List Byte
  value : Int
  gear  : BitVec 3
  steps : Nat
  diag  : Int

/-- SPDENC's computation for a board entry `bt` (R110 to R121). -/
def speedToken (c : Params) (bt : Board) (fgv : BitVec 1) (fgear : BitVec 3)
    (rasterStep : BitVec 10) (feedMilli ratioNano : Word32) : SpeedToken :=
  let raster := decide (rasterStep ≠ 0)
  let feed := clampFeed (zext feedMilli) raster
  let gear := if bit fgv then fgear else gearFor feed raster
  let k := coefFor c bt gear feed
  let value := roundReg c (linValue feed (sext32 k.bMilli) (sext32 k.mMilli))
  if raster then
    ⟨tokenRasterBytes value gear.toNat rasterStep.toNat, value, gear, 0, 0⟩
  else if 0 < zext ratioNano ∧ bt.noDiag = false then
    let steps := stepCount feed
    let diag := roundReg c (c.diagCorr (zext ratioNano) steps (-(sext32 k.mMilli)) feed)
    ⟨tokenDiagonalBytes value gear.toNat steps diag, value, gear, steps, diag⟩
  else
    ⟨tokenVectorBytes value gear.toNat, value, gear, 0, 0⟩

/-- The writes of SPDENC (R122). -/
def writeSpeedToken (t : SpeedToken) (rasterStep : BitVec 10) (s : State) : State :=
  { writeToken t.text s with
    rv := wrap32 t.value, rg := t.gear, rs := BitVec.ofNat 10 t.steps, rd := wrap32 t.diag,
    rr := rasterStep }

/-- SPDENC for given parameters (R110). -/
def spdenc (c : Params) (board : BitVec 4) (fgv : BitVec 1) (fgear : BitVec 3)
    (rasterStep : BitVec 10) (feedMilli ratioNano : Word32) (s : State) : Flow Unit :=
  match c.boardTable board with
  | none => raise .illegalCommand 0x10 s
  | some bt =>
    if spdencFieldsLegal fgv fgear rasterStep then
      .go () (writeSpeedToken (speedToken c bt fgv fgear rasterStep feedMilli ratioNano) rasterStep s)
    else raise .illegalCommand 0x10 s

/-- SPDENC (R110). -/
def execSpdenc (board : BitVec 4) (fgv : BitVec 1) (fgear : BitVec 3) (rasterStep : BitVec 10)
    (feedMilli ratioNano : Word32) (s : State) : Result :=
  runCommand (spdenc Config.params board fgv fgear rasterStep feedMilli ratioNano) s

/-! ### Token to fields, and the bare linear relations -/

/-- The writes of SPDDEC (R128). -/
def writeTokenFields (t : TokenFields) (s : State) : State :=
  { s with
    rv := wrap32 t.value, rg := BitVec.ofNat 3 t.gear, rs := BitVec.ofNat 10 t.step,
    rd := wrap32 t.diag, rr := BitVec.ofNat 10 t.rstep }

/-- SPDDEC (R125 to R129). -/
def execSpddec (s : State) : Result :=
  runCommand (fun s =>
    match parseToken s.tokenText with
    | some t => .go () (writeTokenFields t s)
    | none => raise .malformedToken s.tokLen.toNat s) s

/-- V2S's result in thousandths of a unit per second (R131). -/
def valueToSpeed (value bMilli mMilli : Int) : Int :=
  let den := 1000 * value - bMilli
  if mMilli = 0 ∨ den = 0 then 0
  else sat32 (roundNearest ((25400 * mMilli : Int) / (den : Rat)))

/-- V2S (R131). -/
def execV2s (value bMilli mMilli : Word32) (s : State) : Result :=
  runCommand (fun s =>
    .go () { s with rspd := wrap32 (valueToSpeed (sext32 value) (sext32 bMilli) (sext32 mMilli)) }) s

/-- S2V's result (R132). -/
def speedToValue (c : Params) (feedMilli : Nat) (bMilli mMilli : Int) : Int :=
  roundReg c (linValue feedMilli bMilli mMilli)

/-- S2V (R132). -/
def execS2v (feedMilli bMilli mMilli : Word32) (s : State) : Result :=
  runCommand (fun s =>
    .go ()
      { s with
        rv := wrap32 (speedToValue Config.params (zext feedMilli) (sext32 bMilli) (sext32 mMilli)) }) s

/-- GEARSEL (R133): no clamp is applied first. -/
def execGearsel (raster : BitVec 1) (feedMilli : Word32) (s : State) : Result :=
  runCommand (fun s => .go () { s with rg := gearFor (zext feedMilli) (bit raster) }) s

/-! ### Token transport -/

/-- TOKCLR (R135): the bytes of TOK are left as they are. -/
def execTokclr (s : State) : Result := runCommand (fun s => .go () { s with tokLen := 0 }) s

/-- TOKPUT (R136). -/
def execTokput (byte : Byte) (s : State) : Result :=
  runCommand (fun s =>
    if s.tokLen = 32 then raise .illegalCommand 0x19 s else .go () (pushToken byte s)) s

/-- TOKEMIT (R137): no flush, no change of the modal registers. -/
def execTokemit (s : State) : Result := runCommand (fun s => .go () (emitList s.tokenText s)) s

end Sys2Proof.Machine
end

