-- ==== Sys2Proof/Machine/Framer.lean ====
section
/-! DEFINITION. The commands of the crc8_framer unit (spec/44_crc8_framer.md R220 to R223): FCLOSE,
CRCCLR, CRCUPD. -/

namespace Sys2Proof.Machine

/-- FCLOSE (R220). -/
def execFclose (s : State) : Result := runCommand (fun s => .go () (closeFrame s)) s

/-- CRCCLR (R222). -/
def execCrcclr (s : State) : Result := runCommand (fun s => .go () { s with rcrc := crcInit }) s

/-- CRCUPD (R223). -/
def execCrcupd (byte : Byte) (s : State) : Result :=
  runCommand (fun s => .go () { s with rcrc := crc8Byte s.rcrc byte }) s

end Sys2Proof.Machine
end

