-- ==== Sys2Proof/Machine/Line.lean ====
section
/-! DEFINITION. The line_rasterizer unit (spec/42_line_rasterizer.md R180 to R187): LINE. -/

namespace Sys2Proof.Machine

/-- The kind of one step of a general line (R183). -/
inductive StepKind where
  | primary
  | diagonal
  deriving DecidableEq, Repr

/-- `r(i) = floor((2*i*minor + major) / (2*major))` (R183). -/
def lineRound (major minor i : Nat) : Nat := (2 * i * minor + major) / (2 * major)

/-- The kind of step `i` for `i = 1 .. major` (R183). -/
def stepKind (major minor i : Nat) : StepKind :=
  if lineRound major minor i = lineRound major minor (i - 1) then .primary else .diagonal

/-- The kinds of the steps 1 to `major`, in order (R183). -/
def lineSteps (major minor : Nat) : List StepKind :=
  (List.range major).map fun i => stepKind major minor (i + 1)

/-- Batching (R185) of the remaining steps behind a run of `len` steps of `kind`. -/
def batchFrom (kind : StepKind) (len : Nat) : List StepKind → List (StepKind × Nat)
  | [] => [(kind, len)]
  | k :: ks => if k = kind then batchFrom kind (len + 1) ks else (kind, len) :: batchFrom k 1 ks

/-- Consecutive steps of one kind make one run (R185). The runs are found first and then emitted,
which leaves the order of the moves as R185's loop makes them (log 10). -/
def batch : List StepKind → List (StepKind × Nat)
  | [] => []
  | k :: ks => batchFrom k 1 ks

/-- The runs of a general line, in order (R183, R185). -/
def lineRuns (major minor : Nat) : List (StepKind × Nat) := batch (lineSteps major minor)

/-- What is fixed for all runs of one general line (R185). -/
structure LineDirs where
  pdir  : BitVec 3
  sx    : BitVec 2
  sy    : BitVec 2
  laser : BitVec 1

/-- `EmitRun(kind, len)` (R185) with the step counters `(pcount, dcount)`. -/
def emitRun (d : LineDirs) (run : StepKind × Nat) (counts : Nat × Nat) (s : State) :
    Flow (Nat × Nat) :=
  match run.1 with
  | .primary =>
    (move d.pdir run.2 d.laser d.sx d.sy s).bind fun _ s => .go (counts.1 + run.2, counts.2) s
  | .diagonal =>
    (move 5 run.2 d.laser d.sx d.sy s).bind fun _ s => .go (counts.1, counts.2 + run.2) s

/-- The runs of the line one after another (R185). -/
def emitRuns (d : LineDirs) : List (StepKind × Nat) → (Nat × Nat) → State → Flow (Nat × Nat)
  | [], counts, s => .go counts s
  | run :: runs, counts, s => (emitRun d run counts s).bind fun counts s => emitRuns d runs counts s

/-- `Verify(pcount, dcount)` (R186). -/
def verifyCounts (major minor : Nat) (counts : Nat × Nat) (s : State) : Flow Unit :=
  if counts.1 + counts.2 ≠ major ∨ counts.2 ≠ minor then raise .reconstructionMismatch 0 s
  else .go () s

/-- `General` (R185). -/
def generalLine (major minor : Nat) (d : LineDirs) (s : State) : Flow Unit :=
  (emitRuns d (lineRuns major minor) (0, 0) s).bind fun counts s =>
    verifyCounts major minor counts s

/-- The sub-direction code of a displacement along one axis: 1 positive, 2 negative, 0 keep
(R180, R181). -/
def axisCode (d : Int) : BitVec 2 := if d > 0 then 1 else if d < 0 then 2 else 0

/-- The direction code `xdir` of R180. -/
def xDirCode (sx : BitVec 2) : BitVec 3 := sx.setWidth 3

/-- The direction code `ydir = sy + 2` of R180. -/
def yDirCode (sy : BitVec 2) : BitVec 3 := sy.setWidth 3 + 2

/-- The least 32-bit integer, whose magnitude is no legal distance (R180). -/
def minInt32 : Int := -2147483648

/-- LINE's body (R180). -/
def line (laser : BitVec 1) (dx dy : Int) (s : State) : Flow Unit :=
  if dx = minInt32 then raise .invalidDistance dx s
  else if dy = minInt32 then raise .invalidDistance dy s
  else
    let adx := dx.natAbs
    let ady := dy.natAbs
    let sx := axisCode dx
    let sy := axisCode dy
    if adx = 0 ∧ ady = 0 then .go () s
    else if ady = 0 then move (xDirCode sx) adx laser 0 0 s
    else if adx = 0 then move (yDirCode sy) ady laser 0 0 s
    else if adx = ady then move 5 adx laser sx sy s
    else if ady < adx then generalLine adx ady ⟨xDirCode sx, sx, sy, laser⟩ s
    else generalLine ady adx ⟨yDirCode sy, sx, sy, laser⟩ s

/-- LINE (R180). -/
def execLine (laser : BitVec 1) (dx dy : Word32) (s : State) : Result :=
  runCommand (line laser (sext32 dx) (sext32 dy)) s

end Sys2Proof.Machine
end

