-- ==== Sys2Proof/Machine/Motion.lean ====
section
/-! DEFINITION. The motion_encoder unit (spec/41_motion_encoder.md R150 to R159): MOVE, FLUSH, EMIT,
DIST. -/

namespace Sys2Proof.Machine

/-- MOVE (R156): the fields are checked before the distance (60_exceptions.md R258). -/
def execMove (dir : BitVec 3) (laser : BitVec 1) (ax ay : BitVec 2) (distance : Word32)
    (s : State) : Result :=
  runCommand (fun s =>
    if moveFieldsLegal dir ax ay then move dir (sext32 distance) laser ax ay s
    else raise .illegalCommand 0x20 s) s

/-- FLUSH (R157). -/
def execFlush (s : State) : Result := runCommand (fun s => .go () (flush s)) s

/-- EMIT (R158): no flush, no change of the modal registers. -/
def execEmit (byte : Byte) (s : State) : Result := runCommand (fun s => .go () (emit byte s)) s

/-- DIST (R159): the bare distance code. -/
def execDist (n : Word32) (s : State) : Result :=
  runCommand (fun s =>
    if sext32 n < 0 then raise .invalidDistance (sext32 n) s
    else .go () (emitList (encodeDistance (sext32 n).toNat) s)) s

end Sys2Proof.Machine
end

