-- ==== Sys2Proof/Machine/Output.lean ====
section
/-! DEFINITION. The 28 rows of spec/opcode_table.json that are output, not commands (spec/30_encoding.md
R80 to R95). No command word decodes to them. The meaning of such a row is that its bytes enter
`S` through `Emit`, the only way a byte enters `S` (00_scope.md R17), and change no modal register,
which is what EMIT of the bytes in order does (41_motion_encoder.md R158); "after a fault nothing
more reaches `S` or `F`" (60_exceptions.md R256), so they are refused with FAULT ≠ 0 (log 1). -/

namespace Sys2Proof.Machine

/-- The bytes of an output row enter the stream. -/
def putOutput (bs : List Byte) (s : State) : Result :=
  runCommand (fun s => .go () (emitList bs s)) s

/-- CTRL_I, "begin-move marker" (R80). -/
def execCtrlI (s : State) : Result := putOutput [0x49] s

/-- CTRL_S, first byte of the handshake (R80). -/
def execCtrlS (s : State) : Result := putOutput [0x53] s

/-- CTRL_1, second byte of the handshake (R80). -/
def execCtrl1 (s : State) : Result := putOutput [0x31] s

/-- CTRL_E, third byte of the handshake (R80). -/
def execCtrlE (s : State) : Result := putOutput [0x45] s

/-- CTRL_N, "new-line marker" (R80). -/
def execCtrlN (s : State) : Result := putOutput [0x4E] s

/-- CTRL_R, "raster direction" (R80). -/
def execCtrlR (s : State) : Result := putOutput [0x52] s

/-- CTRL_L, "raster direction" (R80). -/
def execCtrlL (s : State) : Result := putOutput [0x4C] s

/-- CTRL_B, "begin-buffer" (R80). -/
def execCtrlB (s : State) : Result := putOutput [0x42] s

/-- CTRL_F, "finish job" (R80). -/
def execCtrlF (s : State) : Result := putOutput [0x46] s

/-- CTRL_AT, "pause-for-speed-change" (R80). -/
def execCtrlAt (s : State) : Result := putOutput [0x40] s

/-- DIR_RIGHT (R81). -/
def execDirRight (s : State) : Result := putOutput [dirByte 1] s

/-- DIR_LEFT (R81). -/
def execDirLeft (s : State) : Result := putOutput [dirByte 2] s

/-- DIR_UP (R81). -/
def execDirUp (s : State) : Result := putOutput [dirByte 3] s

/-- DIR_DOWN (R81). -/
def execDirDown (s : State) : Result := putOutput [dirByte 4] s

/-- DIR_DIAG (R81). -/
def execDirDiag (s : State) : Result := putOutput [dirByte 5] s

/-- LASER_ON (R82). -/
def execLaserOn (s : State) : Result := putOutput [laserByte 1] s

/-- LASER_OFF (R82). -/
def execLaserOff (s : State) : Result := putOutput [laserByte 0] s

/-- DIST_255: one full chunk (R84). -/
def execDist255 (s : State) : Result :=
  putOutput [122] s

/-- DIST_1_25 (R84). -/
def execDist1to25 (r : Nat) (s : State) : Result :=
  putOutput [BitVec.ofNat 8 (96 + r)] s

/-- DIST_26_51 (R84). -/
def execDist26to51 (r : Nat) (s : State) : Result :=
  putOutput [124, BitVec.ofNat 8 (96 + r - 25)] s

/-- DIST_52_254 (R84). -/
def execDist52to254 (r : Nat) (s : State) : Result :=
  putOutput (dec3 r) s

/-- DIST_0: no byte (R84). -/
def execDist0 (s : State) : Result :=
  putOutput [] s

/-- RUN (R86). -/
def execRun (d : BitVec 3) (n : BitVec 31) (s : State) : Result :=
  putOutput (runBytes d n.toNat) s

/-- TOKEN_VECTOR (R90). -/
def execTokenVector (v : Int) (gear : BitVec 3) (s : State) : Result :=
  putOutput (tokenVectorBytes v gear.toNat) s

/-- TOKEN_DIAGONAL (R91). -/
def execTokenDiagonal (v : Int) (gear : BitVec 3) (steps : BitVec 10) (d : Int)
    (s : State) : Result :=
  putOutput (tokenDiagonalBytes v gear.toNat steps.toNat d) s

/-- TOKEN_RASTER (R92). -/
def execTokenRaster (v : Int) (gear : BitVec 3) (rasterStep : BitVec 10) (s : State) : Result :=
  putOutput (tokenRasterBytes v gear.toNat rasterStep.toNat) s

/-- VALUE_FIELD (R89). -/
def execValueField (v : Int) (s : State) : Result :=
  putOutput (encodeValue v) s

/-- FRAME (R95): a frame with this payload enters `F`, as 44_crc8_framer.md R225 builds one: the
partial frame, where there is one, is closed, then the 30 payload bytes are emitted and fill the
next frame (log 1). -/
def execFrame (payload : Payload) (s : State) : Result :=
  runCommand (fun s => .go () (emitList payload.toList (closeFrame s))) s

end Sys2Proof.Machine
end

