-- ==== Sys2Proof/Machine/System.lean ====
section
/-! DEFINITION. The system commands (spec/45_system.md R235, R236) and the reserved opcodes
(30_encoding.md R79). -/

namespace Sys2Proof.Machine

/-- NOP (45_system.md R235). -/
def execNop (s : State) : Result := runCommand (fun s => .go () s) s

/-- JOBRST (45_system.md R236): the one command that runs whatever FAULT holds
(60_exceptions.md R256). -/
def execJobrst (s : State) : Result := .next (jobReset s)

/-- A reserved `op` raises IllegalCommand with FINFO = op (30_encoding.md R79, 60_exceptions.md
R253); with FAULT ≠ 0 it is refused, not reported (R256). -/
def execReserved (op : BitVec 8) (s : State) : Result :=
  runCommand (raise .illegalCommand op.toNat) s

end Sys2Proof.Machine
end

