-- ==== Sys2Proof/Machine/Dispatch.lean ====
section
/-! DEFINITION. Which meaning each instruction has: one arm per constructor of Instr. -/

namespace Sys2Proof.Machine

def exec (i : Instr) (s : State) : Host.Outcome State Fault Refusal :=
  match i with
  | .nop => Sys2Proof.Machine.execNop s
  | .jobrst => Sys2Proof.Machine.execJobrst s
  | .spdenc board fgv fgear rstep feed ratio => Sys2Proof.Machine.execSpdenc board fgv fgear rstep feed ratio s
  | .spddec => Sys2Proof.Machine.execSpddec s
  | .v2s value b m => Sys2Proof.Machine.execV2s value b m s
  | .s2v feed b m => Sys2Proof.Machine.execS2v feed b m s
  | .gearsel raster feed => Sys2Proof.Machine.execGearsel raster feed s
  | .tokclr => Sys2Proof.Machine.execTokclr s
  | .tokput byte => Sys2Proof.Machine.execTokput byte s
  | .tokemit => Sys2Proof.Machine.execTokemit s
  | .move dir laser ax ay distance => Sys2Proof.Machine.execMove dir laser ax ay distance s
  | .flush => Sys2Proof.Machine.execFlush s
  | .emit byte => Sys2Proof.Machine.execEmit byte s
  | .dist n => Sys2Proof.Machine.execDist n s
  | .line laser dx dy => Sys2Proof.Machine.execLine laser dx dy s
  | .fclose => Sys2Proof.Machine.execFclose s
  | .crcclr => Sys2Proof.Machine.execCrcclr s
  | .crcupd byte => Sys2Proof.Machine.execCrcupd byte s
  | .reserved op => Sys2Proof.Machine.execReserved op s
  | .ctrlI => Sys2Proof.Machine.execCtrlI s
  | .ctrlS => Sys2Proof.Machine.execCtrlS s
  | .ctrl1 => Sys2Proof.Machine.execCtrl1 s
  | .ctrlE => Sys2Proof.Machine.execCtrlE s
  | .ctrlN => Sys2Proof.Machine.execCtrlN s
  | .ctrlR => Sys2Proof.Machine.execCtrlR s
  | .ctrlL => Sys2Proof.Machine.execCtrlL s
  | .ctrlB => Sys2Proof.Machine.execCtrlB s
  | .ctrlF => Sys2Proof.Machine.execCtrlF s
  | .ctrlAt => Sys2Proof.Machine.execCtrlAt s
  | .dirRight => Sys2Proof.Machine.execDirRight s
  | .dirLeft => Sys2Proof.Machine.execDirLeft s
  | .dirUp => Sys2Proof.Machine.execDirUp s
  | .dirDown => Sys2Proof.Machine.execDirDown s
  | .dirDiag => Sys2Proof.Machine.execDirDiag s
  | .laserOn => Sys2Proof.Machine.execLaserOn s
  | .laserOff => Sys2Proof.Machine.execLaserOff s
  | .dist255 => Sys2Proof.Machine.execDist255 s
  | .dist1to25 r => Sys2Proof.Machine.execDist1to25 r s
  | .dist26to51 r => Sys2Proof.Machine.execDist26to51 r s
  | .dist52to254 r => Sys2Proof.Machine.execDist52to254 r s
  | .dist0 => Sys2Proof.Machine.execDist0 s
  | .run d n => Sys2Proof.Machine.execRun d n s
  | .tokenVector v gear => Sys2Proof.Machine.execTokenVector v gear s
  | .tokenDiagonal v gear steps d => Sys2Proof.Machine.execTokenDiagonal v gear steps d s
  | .tokenRaster v gear rstep => Sys2Proof.Machine.execTokenRaster v gear rstep s
  | .valueField v => Sys2Proof.Machine.execValueField v s
  | .frame payload => Sys2Proof.Machine.execFrame payload s

end Sys2Proof.Machine
end

