-- ==== Sys2Proof/Machine/Step.lean ====
section
/-! DEFINITION. One step: the block takes the next command word and executes it to completion
(spec/00_scope.md R13, 10_state.md R23). -/

namespace Sys2Proof.Machine

/-- One step. With no word presented the block waits and nothing changes (70_reset_and_hazards.md
R281, 60_exceptions.md R260). A command that faults or is refused is consumed like any other
(10_state.md R23, 60_exceptions.md R256). A command is one step however much work it does
(70_reset_and_hazards.md R296; log 14). -/
def step (s : State) : Host.Outcome State Fault Refusal :=
  match s.fetch with
  | none => .next s
  | some w => exec (decode w) s.consume

/-- The host presents a word to be taken next (log 2): the low `nbits` bits are those of `w`, the
others 0 (log 12). -/
def State.withFetchWord (s : State) (nbits w : Nat) : State :=
  { s with queue := BitVec.ofNat 128 (w % 2 ^ nbits) :: s.queue }

end Sys2Proof.Machine
end

