-- ==== Sys2Proof/Safety.lean ====
section
/-! DEFINITION. What a good state is (the values spec/10_state.md says the registers hold), what a
finished job is, and the hazards the host must respect (70_reset_and_hazards.md R286 to R290). -/

namespace Sys2Proof.Machine

/-- The registers hold only values the spec gives them: 10_state.md R21 (MDIR 6, 7 and MAX, MAY 3
"never held"; a pending run has a direction, 41_motion_encoder.md R153), R22 (gear 0 to 4, RS and
RR 0 to 999), R25 (FAULT 5 to 7 "never held"), R26 (FINFO cleared with FAULT), R28 (TOKLEN 0 to 32),
R29 (FCNT 0 to 29). -/
def State.legal (s : State) : Bool :=
  decide (s.mDir ≤ 5 ∧ s.mAx ≤ 2 ∧ s.mAy ≤ 2 ∧ (s.mDist ≠ 0 → s.mDir ≠ 0) ∧ s.rg ≤ 4 ∧
    s.rs ≤ 999 ∧ s.rr ≤ 999 ∧ s.fault ≤ 4 ∧ (s.fault = 0 → s.finfo = 0) ∧ s.tokLen ≤ 32 ∧
    s.fcnt ≤ 29)

/-- The payload of a frame, its bytes 2 to 31 (30_encoding.md R95). -/
def payloadOf (f : Frame) : List Byte := (f.toList.drop 2).take 30

/-- A frame of the wire format (30_encoding.md R95): markers, zero byte, CRC-8 over bytes 1 to 31. -/
def frameSound (f : Frame) : Bool :=
  decide (f[0] = 0xA6 ∧ f[1] = 0x00 ∧ f[32] = 0xA6 ∧ f[33] = crc8 ((f.toList.drop 1).take 31))

/-- Every frame in `F` is of the wire format. -/
def State.framesSound (s : State) : Bool := s.frames.all frameSound

/-- `P(F) ++ FBUF[0 .. FCNT-1]` (20_memory.md R57): the bytes the framer has taken, in order. -/
def State.framed (s : State) : List Byte :=
  s.frames.flatMap payloadOf ++ s.fbuf.toList.take s.fcnt.toNat

/-- Nothing faulted, no run pending, no partial frame: what FLUSH and FCLOSE leave at the end of a
job (70_reset_and_hazards.md R284, R286; 20_memory.md R62). -/
def State.jobDone (s : State) : Bool :=
  decide (s.fault = 0 ∧ s.mDist = 0 ∧ s.fcnt = 0)

/-- A list of commands executed one after another (00_scope.md R13). -/
def execAll : List Instr → State → Host.Outcome State Fault Refusal
  | [], s => .next s
  | i :: is, s =>
    match exec i s with
    | .next t => execAll is t
    | .fault r => .fault r
    | .refused r => .refused r

/-- The hazards of 70_reset_and_hazards.md. -/
inductive Hazard where
  /-- R286: closing the frame or resetting the job with a run still pending. -/
  | pendingRunLost
  /-- R287: raw bytes overtake a pending run. -/
  | rawBytesOvertake
  /-- R208, R287: a direction or laser byte behind the modal registers' back. -/
  | rawModalByte
  /-- R288: a diagonal with a sub-direction still unknown. -/
  | unknownSubDirection
  /-- R289: JOBRST with a partial frame. -/
  | partialFrameDropped
  /-- R290: a cardinal move with a contradicting sub-direction of its own axis. -/
  | contradictingSubDirection
  deriving DecidableEq, Repr

/-- Does a sub-direction operand contradict a cardinal direction on its own axis (R290)? -/
def contradicts (dir : BitVec 3) (ax ay : BitVec 2) : Bool :=
  decide ((dir = 1 ∧ ax = 2) ∨ (dir = 2 ∧ ax = 1) ∨ (dir = 3 ∧ ay = 2) ∨ (dir = 4 ∧ ay = 1))

/-- The hazards a command runs into in a state (R286 to R290). The machine executes it all the
same. -/
def hazards (i : Instr) (s : State) : List Hazard :=
  let pending := s.runPending
  match i with
  | .fclose => if pending then [.pendingRunLost] else []
  | .jobrst =>
    (if pending then [.pendingRunLost] else []) ++
    (if s.fcnt ≠ 0 then [.partialFrameDropped] else [])
  | .emit b =>
    (if pending then [.rawBytesOvertake] else []) ++
    (if b ∈ [0x42, 0x54, 0x4C, 0x52, 0x4D, 0x44, 0x55] then [.rawModalByte] else [])
  | .dist _ | .tokemit => if pending then [.rawBytesOvertake] else []
  | .move dir _ ax ay _ =>
    (if dir = 5 ∧ (keepOr ax s.mAx = 0 ∨ keepOr ay s.mAy = 0) then [.unknownSubDirection] else []) ++
    (if contradicts dir ax ay then [.contradictingSubDirection] else [])
  | .nop | .spdenc _ _ _ _ _ _ | .spddec | .v2s _ _ _ | .s2v _ _ _ | .gearsel _ _ | .tokclr
  | .tokput _ | .flush | .line _ _ _ | .crcclr | .crcupd _ | .reserved _
  | .ctrlI | .ctrlS | .ctrl1 | .ctrlE | .ctrlN | .ctrlR | .ctrlL | .ctrlB | .ctrlF | .ctrlAt
  | .dirRight | .dirLeft | .dirUp | .dirDown | .dirDiag | .laserOn | .laserOff
  | .dist255 | .dist1to25 _ | .dist26to51 _ | .dist52to254 _ | .dist0 | .run _ _
  | .tokenVector _ _ | .tokenDiagonal _ _ _ _ | .tokenRaster _ _ _ | .valueField _
  | .frame _ => []

end Sys2Proof.Machine
end

