-- ==== Sys2Proof/Certificates/Slice0/Obligations.lean ====
section
/-! DEFINITION. The statements for the provers, one `def Obligations.<Name> : Prop` each, in the
order of OBLIGATIONS.json. Before them stand the definitions that only statements use. -/

open Sys2Proof Sys2Proof.Machine

namespace Sys2Proof.Claim

/-- A fault recorded in a state that held none; nothing else changes (60_exceptions.md R255). -/
def withFault (code : BitVec 3) (info : Word32) (s : State) : State :=
  { s with fault := code, finfo := info }

/-- The values a token can carry there and back (40_speed_codec.md R130). -/
def decodable (v : Int) : Prop := (0 ≤ v ∧ v ≤ 255999) ∨ (-198967040 ≤ v ∧ v ≤ -1)

/-- `Dec3(steps) ++ EncodeValue(D)` after a vector token can be split two ways: a short first value,
a negative second one, and first eight digits in the long form's range (40_speed_codec.md R130). -/
def ambiguousDiagonal (v : Int) (gear steps : Nat) (d : Int) : Prop :=
  0 ≤ v ∧ d < 0 ∧
  inLongRange (num ((encodeValue v ++ dec1 gear ++ dec3 steps ++ encodeValue d).take 8)) = true

/-- RoundReg(LinValue(F, b, m)) in integers, as 40_speed_codec.md R117 writes it. -/
def registerValue (bias : Int) (feed : Nat) (b m : Int) : Int :=
  if feed = 0 then (b + bias) / 1000 else (b * feed + 25400 * m + bias * feed) / (1000 * feed)

/-- The gear pair in force: GEAR_LUT of the gear, of gear 0 below the board's low-speed threshold
(40_speed_codec.md R114, R115). -/
def gearPair (c : Params) (bt : Board) (gear : BitVec 3) (feed : Nat) : Coef :=
  match bt.lowLimitMilli with
  | none => c.gearLut bt.family gear
  | some l => c.gearLut bt.family (if feed < l.toNat then 0 else gear)

/-- What SPDENC leaves in raster mode; IllegalCommand where BOARD_TABLE has no entry
(40_speed_codec.md R110 to R119, R122). -/
def RasterTokenWritten (c : Params) (board : BitVec 4) (fgv : BitVec 1) (fgear : BitVec 3)
    (rstep : BitVec 10) (feed : Word32) (s t : State) : Prop :=
  match c.boardTable board with
  | none => t = withFault 4 0x10 s
  | some bt =>
    let gear := if fgv = 1 then fgear else gearFor feed.toNat true
    let k := gearPair c bt gear feed.toNat
    let v := registerValue c.roundBiasMilli feed.toNat k.bMilli.toInt k.mMilli.toInt
    t.tokenText = 0x56 :: (encodeValue v ++ dec1 gear.toNat ++ 0x47 :: dec3 rstep.toNat) ∧
    t.tokLen.toNat = t.tokenText.length ∧
    t = { s with
          tok := t.tok, tokLen := t.tokLen, freeIdx := t.freeIdx,
          rv := BitVec.ofInt 32 v, rg := gear, rs := 0, rd := 0, rr := rstep }

/-- What SPDENC leaves in vector mode; IllegalCommand where BOARD_TABLE has no entry
(40_speed_codec.md R110 to R122). -/
def VectorTokenWritten (c : Params) (board : BitVec 4) (fgv : BitVec 1) (fgear : BitVec 3)
    (feed ratio : Word32) (s t : State) : Prop :=
  match c.boardTable board with
  | none => t = withFault 4 0x10 s
  | some bt =>
    let F := if 240000 < feed.toNat then 19050 else feed.toNat
    let gear := if fgv = 1 then fgear else gearFor F false
    let k := gearPair c bt gear F
    let v := registerValue c.roundBiasMilli F k.bMilli.toInt k.mMilli.toInt
    let steps := min (F / 1000 + 1) 128
    let d := roundReg c (c.diagCorr ratio.toNat steps (-k.mMilli.toInt) F)
    let vector := 0x43 :: 0x56 :: (encodeValue v ++ dec1 gear.toNat)
    t.tokLen.toNat = t.tokenText.length ∧
    if 0 < ratio.toNat ∧ bt.noDiag = false then
      t.tokenText = vector ++ (dec3 steps ++ encodeValue d) ∧
      t = { s with
            tok := t.tok, tokLen := t.tokLen, freeIdx := t.freeIdx,
            rv := BitVec.ofInt 32 v, rg := gear, rs := BitVec.ofNat 10 steps,
            rd := BitVec.ofInt 32 d, rr := 0 }
    else
      t.tokenText = vector ∧
      t = { s with
            tok := t.tok, tokLen := t.tokLen, freeIdx := t.freeIdx,
            rv := BitVec.ofInt 32 v, rg := gear, rs := 0, rd := 0, rr := 0 }

/-- A value field of 6 or 11 digits and the value it decodes to (40_speed_codec.md R127). -/
def Field (ds : List Byte) (v : Int) : Prop :=
  ds.all isDigit = true ∧
  ((ds.length = 6 ∧ num (ds.drop 3) ≤ 255 ∧
      v = 256 * (num (ds.take 3) : Int) + num (ds.drop 3)) ∨
   (ds.length = 11 ∧ num (ds.drop 8) ≤ 255 ∧ 16000000 < num (ds.take 8) ∧
      num (ds.take 8) ≤ 16777215 ∧
      v = 256 * ((num (ds.take 8) : Int) - 16777216) + num (ds.drop 8)))

/-- The body of a token, after `V` and before a trailing `C` (30_encoding.md R93, with
40_speed_codec.md R126 for the 21-digit form). -/
def Body (body : List Byte) (f : TokenFields) : Prop :=
  ∃ field gear : List Byte, Field field f.value ∧ gear = dec1 f.gear ∧ f.gear ≤ 4 ∧
  ((body = field ++ gear ∧ f.step = 0 ∧ f.diag = 0 ∧ f.rstep = 0) ∨
   (∃ r : List Byte, body = field ++ gear ++ 0x47 :: r ∧ r.length = 3 ∧ r.all isDigit = true ∧
      f.step = 0 ∧ f.diag = 0 ∧ f.rstep = num r) ∨
   (∃ st second : List Byte, body = field ++ gear ++ st ++ second ∧ st.length = 3 ∧
      st.all isDigit = true ∧ Field second f.diag ∧ f.step = num st ∧ f.rstep = 0 ∧
      (field.length + second.length = 17 →
        (field.length = 11 ↔ 16000000 < num (body.take 8) ∧ num (body.take 8) ≤ 16777215))))

/-- The tokens SPDDEC accepts and what they stand for (30_encoding.md R93). -/
def Grammar (t : List Byte) (f : TokenFields) : Prop :=
  ∃ lead body trail : List Byte, t = lead ++ 0x56 :: (body ++ trail) ∧
    (lead = [] ∨ lead = [0x43]) ∧ (trail = [] ∨ trail = [0x43]) ∧ Body body f

/-- The steps of a general line by the accumulator of 42_line_rasterizer.md R184: `k` more steps
from the accumulator value `e`. -/
def accumulatorSteps (major minor : Nat) : (k e : Nat) → List StepKind
  | 0, _ => []
  | k + 1, e =>
    if 2 * major ≤ e + 2 * minor then
      .diagonal :: accumulatorSteps major minor k (e + 2 * minor - 2 * major)
    else .primary :: accumulatorSteps major minor k (e + 2 * minor)

/-- The general line as a walk of single ticks (42_line_rasterizer.md R184): one MOVE of one tick
for each step, with the line's sub-directions. -/
def tickWalk (laser : BitVec 1) (pdir : BitVec 3) (sx sy : BitVec 2) (major minor : Nat) :
    List Instr :=
  (accumulatorSteps major minor major major).map fun k =>
    .move (match k with | .primary => pdir | .diagonal => 5) laser sx sy 1

/-- The run a list of steps begins with: its kind and its length (42_line_rasterizer.md R185). -/
def firstRun : List StepKind → StepKind × Nat
  | [] => (.primary, 0)
  | k :: ks => (k, 1 + (ks.takeWhile (· = k)).length)

/-- The first run of a general line, by the accumulator of 42_line_rasterizer.md R184. -/
def firstLineRun (dx dy : Word32) : StepKind × Nat :=
  let adx := dx.toInt.natAbs
  let ady := dy.toInt.natAbs
  firstRun (accumulatorSteps (max adx ady) (min adx ady) (max adx ady) (max adx ady))

/-- The distance of the first move a line makes: all of it where it is horizontal, vertical or at 45
degrees, else its first run (42_line_rasterizer.md R180). -/
def firstMoveTicks (dx dy : Word32) : Nat :=
  let adx := dx.toInt.natAbs
  let ady := dy.toInt.natAbs
  if adx = 0 ∨ ady = 0 ∨ adx = ady then max adx ady else (firstLineRun dx dy).2

/-- The distance code of R84 and R150, written out: one 122 for every 255 ticks, then nothing, one byte
`96 + r`, the escape 124 and `96 + r - 25`, or three digits (30_encoding.md, 41_motion_encoder.md). -/
def distanceBytes (n : Nat) : List Byte :=
  let r := n % 255
  List.replicate (n / 255) 122 ++
    if r = 0 then []
    else if r ≤ 25 then [BitVec.ofNat 8 (96 + r)]
    else if r ≤ 51 then [124, BitVec.ofNat 8 (96 + (r - 25))]
    else [BitVec.ofNat 8 (48 + r / 100), BitVec.ofNat 8 (48 + r / 10 % 10),
      BitVec.ofNat 8 (48 + r % 10)]

/-- CRC-8 of one byte, bit by bit (44_crc8_framer.md R215): the byte's bits from the least significant
on, the register shifted right, 0x8C folded in when its bit 0 and the byte's bit differ. -/
def crcOfByte (crc byte : Byte) : Byte :=
  (List.range 8).foldl
    (fun c i => (c >>> 1) ^^^ if c.getLsbD 0 = byte.getLsbD i then 0x00 else 0x8C) crc

/-- CRC-8 of a list, first byte first, from 0x00 (44_crc8_framer.md R216, R217). -/
def crcOfBytes (bs : List Byte) : Byte := bs.foldl crcOfByte 0x00

/-- The bytes a MOVE that starts a new run emits before it (41_motion_encoder.md R152): the pending
run, the laser byte, the x and the y sub-direction byte. -/
def runStartBytes (laser : BitVec 1) (rax ray : BitVec 2) (s : State) : List Byte :=
  (if s.mDist = 0 then [] else dirByte s.mDir :: encodeDistance s.mDist.toNat) ++
  (if laser = s.mLaser then [] else if laser = 1 then [0x44] else [0x55]) ++
  (if rax = s.mAx then [] else if rax = 1 then [0x42] else [0x54]) ++
  (if ray = s.mAy then [] else if ray = 1 then [0x4C] else [0x52])

/-- Every word with this `op` is this command; its other fields are read as `f` says
(30_encoding.md R71 to R77). -/
def decodesAs (op : BitVec 8) (f : CmdWord → Instr) : Prop :=
  ∀ w : CmdWord, opField w = op → decode w = f w

/-- `w[lo+len-1 : lo]` by division (00_scope.md R14). -/
def slice (w : CmdWord) (lo len : Nat) : BitVec len := BitVec.ofNat len (w.toNat / 2 ^ lo)

/-- The fields of a state that `Emit` writes, taken from `t` (20_memory.md R56). -/
def withStreamsOf (t s : State) : State :=
  { s with egv := t.egv, frames := t.frames, fbuf := t.fbuf, fcnt := t.fcnt }

end Sys2Proof.Claim

open Sys2Proof.Claim

/-! ### Encoding (30_encoding.md R70 to R79) -/

/-- The opcode map and the field places of every format, bit by bit: which bits of the word each
operand is (R70 to R77), and RESERVED for every other `op` (R79). -/
def Obligations.CommandFieldsDecode : Prop :=
  ∀ w : CmdWord,
    decode w =
      match w.toNat / 2 ^ 120 with
      | 0x00 => .nop
      | 0x01 => .jobrst
      | 0x10 => .spdenc (slice w 96 4) (slice w 100 1) (slice w 101 3) (slice w 104 10)
          (slice w 64 32) (slice w 32 32)
      | 0x11 => .spddec
      | 0x12 => .v2s (slice w 64 32) (slice w 32 32) (slice w 0 32)
      | 0x13 => .s2v (slice w 64 32) (slice w 32 32) (slice w 0 32)
      | 0x14 => .gearsel (slice w 96 1) (slice w 64 32)
      | 0x18 => .tokclr
      | 0x19 => .tokput (slice w 96 8)
      | 0x1A => .tokemit
      | 0x20 => .move (slice w 96 3) (slice w 99 1) (slice w 100 2) (slice w 102 2) (slice w 64 32)
      | 0x21 => .flush
      | 0x22 => .emit (slice w 96 8)
      | 0x23 => .dist (slice w 64 32)
      | 0x28 => .line (slice w 96 1) (slice w 64 32) (slice w 32 32)
      | 0x30 => .fclose
      | 0x31 => .crcclr
      | 0x32 => .crcupd (slice w 96 8)
      | op => .reserved (BitVec.ofNat 8 op)

/-- Every operand of every command survives encoding and decoding (R70 to R79). -/
def Obligations.DecodeInvertsEncode : Prop :=
  ∀ (i : Instr) (w : CmdWord), encode i = some w → decode w = i

/-- Encoding a decoded word gives the word back with its ignored bits cleared: every bit a format
names is read, no other is (R72 to R77). -/
def Obligations.EncodeKeepsExactlyTheUsedBits : Prop :=
  ∀ w : CmdWord, encode (decode w) = some (w &&& usedBits (decode w))

/-- Words that agree on the bits the first one's format uses are the same command (R79). -/
def Obligations.IgnoredFieldsHaveNoEffect : Prop :=
  ∀ w w' : CmdWord, w &&& usedBits (decode w) = w' &&& usedBits (decode w) → decode w' = decode w

/-- Words of 95_test_vectors.md, one per format, decode to the commands they stand for. -/
def Obligations.SampleWordsDecode : Prop :=
  decode 0x00FFFFFFFFFFFFFFFFFFFFFFFFFFFFFF = .nop ∧
  decode 0x2000009D000000050000000000000000 = .move 5 1 1 2 5 ∧
  decode 0x2200004E000000000000000000000000 = .emit 0x4E ∧
  decode 0x2300000000001DE20000000000000000 = .dist 7650 ∧
  decode 0x28000001FFFFFFF9FFFFFFFD00000000 = .line 1 (BitVec.ofInt 32 (-7)) (BitVec.ofInt 32 (-3)) ∧
  decode 0x1000007100001B570000000000000000 = .spdenc 1 1 3 0 6999 0 ∧
  decode 0x12000000FFFC39780399E000FF471040 =
    .v2s (BitVec.ofInt 32 (-247432)) 60416000 (BitVec.ofInt 32 (-12120000)) ∧
  decode 0x14000001000186A00000000000000000 = .gearsel 1 100000 ∧
  decode 0x33ABCDEF000000010000000200000003 = .reserved 0x33

/-- Every output row but a token or a value outside the round-trip domain is read back from its
bytes by a reader that knows its class (R80 to R95; the reader is the model's, log 1). -/
def Obligations.OutputRowsReadBack : Prop :=
  ∀ (c : Params) (i : Instr) (k : OutClass) (bs : List Byte),
    i.wellFormed c = true → outClass i = some k → outputBytes i = some bs →
    (match i with
     | .tokenVector v _ | .tokenRaster v _ _ | .valueField v => decodable v
     | .tokenDiagonal v g st d =>
        decodable v ∧ decodable d ∧ ¬ambiguousDiagonal v g.toNat st.toNat d
     | _ => True) →
    decodeOutput k bs = some i

/-! ### The command port (10_state.md R23) -/

/-- A step takes the next word and executes the command it decodes to; with no word presented the
block waits unchanged (the waiting step is the model's choice, log 2). -/
def Obligations.StepRunsTheDecodedCommand : Prop :=
  (∀ (s : State) (w : CmdWord) (rest : List CmdWord), s.queue = w :: rest →
    step s = exec (decode w) { s with queue := rest, history := s.history ++ [w] }) ∧
  (∀ s : State, s.queue = [] → step s = .next s)

/-- Every instruction has a next state (93_implementation_defined.md says it of every command word), and
"No command can alter which command comes next" (10_state.md R23). For the output rows both are the
model's choice (log 1), and so are the fields `queue` and `history` (log 2). -/
def Obligations.EveryCommandCompletesAndLeavesTheProgram : Prop :=
  ∀ (i : Instr) (s : State), ∃ t, exec i s = .next t ∧ t.queue = s.queue ∧ t.history = s.history

/-! ### Faults (60_exceptions.md R250 to R262) -/

/-- `raise` keeps the first fault and ends the command; `fault_o` follows FAULT (R255). -/
def Obligations.RaiseKeepsTheFirstFault : Prop :=
  (∀ (c : Cause) (info : Int) (s : State), s.fault = 0 →
    (raise c info s : Flow Unit).state = withFault c.code (BitVec.ofInt 32 info) s) ∧
  (∀ (c : Cause) (info : Int) (s : State), s.fault ≠ 0 →
    (raise c info s : Flow Unit).state = s) ∧
  (∀ s : State, s.faultO = true ↔ s.fault ≠ 0) ∧
  (∀ (c : Cause) (info : Int) (s : State) (f : Unit → State → Flow Unit),
    (raise c info s).bind f = raise c info s)

/-- While FAULT is not 0 every command but JOBRST is refused without effect and consumed (R256). That
the output rows are refused too is the model's choice (log 1), and so are the fields `queue` and
`history` (log 2). -/
def Obligations.FaultedBlockRefusesCommands : Prop :=
  (∀ (i : Instr) (s : State), s.fault ≠ 0 → i ≠ .jobrst → exec i s = .next s) ∧
  (∀ (s : State) (w : CmdWord) (rest : List CmdWord), s.queue = w :: rest → s.fault ≠ 0 →
    decode w ≠ .jobrst →
    step s = .next { s with queue := rest, history := s.history ++ [w] })

/-- A reserved opcode raises IllegalCommand with the opcode as FINFO (R253, 30_encoding.md R79). -/
def Obligations.ReservedOpcodeRaisesIllegalCommand : Prop :=
  (∀ (op : BitVec 8) (s : State), s.fault = 0 →
    exec (.reserved op) s = .next (withFault 4 (op.setWidth 32) s)) ∧
  (∀ w : CmdWord, opField w ∉ opcodeMap → decode w = .reserved (opField w))

/-- A command that faults changes FAULT and FINFO and nothing else (R257, R187). That an output row
never faults is the model's choice (log 1). -/
def Obligations.FaultingCommandChangesNothingElse : Prop :=
  ∀ (i : Instr) (s t : State), s.fault = 0 → exec i s = .next t → t.fault ≠ 0 →
    t = withFault t.fault t.finfo s

/-- The reconstruction check of LINE never fails (42_line_rasterizer.md R187). That an output row never
faults is the model's choice (log 1). -/
def Obligations.ReconstructionMismatchIsUnreachable : Prop :=
  ∀ (i : Instr) (s t : State), s.fault = 0 → exec i s = .next t → t.fault ≠ 2

/-- Which commands raise which fault, with which information word (R250 to R253). LINE reports an
operand of -2^31, else the distance of its first move, the only one that can overflow (R257). That an output row never
faults is the model's choice (log 1). -/
def Obligations.FaultsComeOnlyFromTheirCommands : Prop :=
  ∀ (i : Instr) (s t : State), s.fault = 0 → exec i s = .next t → t.fault ≠ 0 →
    (t.fault = 1 ∧ ((∃ d l x y n, i = .move d l x y n ∧ t.finfo = n) ∨
      (∃ n, i = .dist n ∧ t.finfo = n) ∨
      (∃ l dx dy, i = .line l dx dy ∧ t.finfo =
        if dx = 0x80000000 ∨ dy = 0x80000000 then 0x80000000
        else BitVec.ofNat 32 (firstMoveTicks dx dy)))) ∨
    (t.fault = 3 ∧ i = .spddec ∧ t.finfo = s.tokLen.setWidth 32) ∨
    (t.fault = 4 ∧ ((∃ b v g r f q, i = .spdenc b v g r f q ∧ t.finfo = 0x10) ∨
      (∃ b, i = .tokput b ∧ t.finfo = 0x19) ∨
      (∃ d l x y n, i = .move d l x y n ∧ t.finfo = 0x20) ∨
      (∃ op, i = .reserved op ∧ t.finfo = op.setWidth 32)))

/-! ### State: reset, legal values, streams -/

/-- The values 10_state.md R36 gives for hardware reset; they are legal and no frame is wrong. -/
def Obligations.ResetValuesAreLegal : Prop :=
  let s := State.reset
  s.mDir = 0 ∧ s.mDist = 0 ∧ s.mLaser = 0 ∧ s.mAx = 0 ∧ s.mAy = 0 ∧ s.rv = 0 ∧ s.rd = 0 ∧
  s.rspd = 0 ∧ s.rg = 0 ∧ s.rs = 0 ∧ s.rr = 0 ∧ s.fault = 0 ∧ s.finfo = 0 ∧ s.tokLen = 0 ∧
  s.fcnt = 0 ∧ s.rcrc = 0 ∧ s.egv = [] ∧ s.frames = [] ∧ s.legal = true ∧ s.framesSound = true

/-- Registers never hold a value the spec says is never held (10_state.md R21, R22, R25, R28, R29). -/
def Obligations.LegalStateIsKept : Prop :=
  ∀ s t : State, s.legal = true → step s = .next t → t.legal = true

/-- Every frame in `F` has the wire format and the CRC of the payload it carries (30_encoding.md R95,
44_crc8_framer.md R221). -/
def Obligations.SoundFramesAreKept : Prop :=
  ∀ s t : State, s.framesSound = true → step s = .next t → t.framesSound = true

/-- `S` and `F` only grow (10_state.md R31); what an output row appends is the model's choice (log 1). -/
def Obligations.StreamsOnlyGrow : Prop :=
  ∀ (i : Instr) (s t : State), exec i s = .next t →
    s.egv <+: t.egv ∧ s.frames <+: t.frames

/-- Every byte that enters `S` enters the framer in the same order; only closing a frame adds
FILLER (20_memory.md R55, R57). -/
def Obligations.FramerCarriesTheStream : Prop :=
  ∀ (i : Instr) (s t : State), s.fcnt ≤ 29 → exec i s = .next t → (i = .jobrst → s.fcnt = 0) →
    ∃ (bs : List Byte) (k : Nat), t.egv = s.egv ++ bs ∧
      t.framed = s.framed ++ List.replicate k 0x46 ++ bs ∧ k ≤ 29 ∧
      (k ≠ 0 → i = .fclose ∨ ∃ p, i = .frame p)

/-- Which commands write which registers (10_state.md R34); TOK and TOKLEN in one clause.
That the output rows write none of them is the model's choice (log 1). -/
def Obligations.RegistersAreWrittenOnlyByTheirCommands : Prop :=
  ∀ (i : Instr) (s t : State), exec i s = .next t → i ≠ .jobrst →
    ((∀ d l x y n, i ≠ .move d l x y n) → (∀ l dx dy, i ≠ .line l dx dy) →
      t.mDir = s.mDir ∧ t.mLaser = s.mLaser ∧ t.mAx = s.mAx ∧ t.mAy = s.mAy ∧
      (i ≠ .flush → t.mDist = s.mDist)) ∧
    ((∀ b v g r f q, i ≠ .spdenc b v g r f q) → i ≠ .spddec →
      t.rs = s.rs ∧ t.rd = s.rd ∧ t.rr = s.rr ∧
      ((∀ f b m, i ≠ .s2v f b m) → t.rv = s.rv) ∧ ((∀ r f, i ≠ .gearsel r f) → t.rg = s.rg)) ∧
    ((∀ v b m, i ≠ .v2s v b m) → t.rspd = s.rspd) ∧
    ((∀ b v g r f q, i ≠ .spdenc b v g r f q) → (∀ b, i ≠ .tokput b) →
      t.tok = s.tok ∧ (i ≠ .tokclr → t.tokLen = s.tokLen)) ∧
    (i ≠ .crcclr → (∀ b, i ≠ .crcupd b) → t.rcrc = s.rcrc)

/-! ### System commands (45_system.md) -/

/-- NOP changes nothing (R235). -/
def Obligations.NopChangesNothing : Prop :=
  decodesAs 0x00 (fun _ => .nop) ∧ ∀ s : State, exec .nop s = .next s

/-- JOBRST, whatever FAULT holds; no other command executes while FAULT is not 0 (R236). That the
output rows do not either is the model's choice (log 1). -/
def Obligations.JobResetClearsTheJobState : Prop :=
  decodesAs 0x01 (fun _ => .jobrst) ∧
  (∀ s : State, exec .jobrst s = .next
    { s with
      mDir := 0, mDist := 0, mLaser := 0, mAx := 0, mAy := 0, rv := 0, rg := 0, rs := 0, rd := 0,
      rr := 0, rspd := 0, tokLen := 0, fcnt := 0, rcrc := 0, fault := 0, finfo := 0 }) ∧
  (∀ (i : Instr) (s : State), i ≠ .jobrst → s.fault ≠ 0 → exec i s = .next s)

/-! ### speed_codec (40_speed_codec.md) -/

/-- RoundReg of the linear value is the integer quotient of R117, for all parameters. -/
def Obligations.RegisterValueInIntegers : Prop :=
  ∀ (c : Params) (feed : Nat) (b m : Int),
    roundReg c (linValue feed b m) = registerValue c.roundBiasMilli feed b m

/-- The value field depends on the low 32 bits of the value only (R118), and its length is as
30_encoding.md R89 says. -/
def Obligations.ValueFieldBitsAndLength : Prop :=
  ∀ v : Int, encodeValue v =
      dec3 ((BitVec.ofInt 32 v).extractLsb' 8 24).toNat ++
      dec3 ((BitVec.ofInt 32 v).extractLsb' 0 8).toNat ∧
    (0 ≤ v → v ≤ 65535 → (encodeValue v).length = 6) ∧
    (-1734967296 ≤ v → v < 0 → (encodeValue v).length = 11) ∧
    6 ≤ (encodeValue v).length ∧ (encodeValue v).length ≤ 11 ∧
    ((encodeValue v).length = 11 ↔ 10000000 ≤ v / 256 % 16777216)

/-- `Dec3` writes decimal digits, at least three, and `Num` is its inverse (00_scope.md R17). -/
def Obligations.DecimalDigitsReadBack : Prop :=
  ∀ n : Nat, num (dec3 n) = n ∧ (dec3 n).all isDigit = true ∧ 3 ≤ (dec3 n).length ∧
    (n < 1000 → (dec3 n).length = 3)

/-- SPDENC in raster mode, for every table: `exec` is the command for the provisioned parameters
(R110 to R119, R122). -/
def Obligations.SpdencWritesTheRasterToken : Prop :=
  ∀ (board : BitVec 4) (fgv : BitVec 1) (fgear : BitVec 3) (rstep : BitVec 10)
    (feed ratio : Word32) (s : State),
    s.fault = 0 → (fgv = 1 → fgear ≤ 4) → rstep ≠ 0 → rstep ≤ 999 →
    (∃ t, exec (.spdenc board fgv fgear rstep feed ratio) s = .next t ∧
      RasterTokenWritten Config.params board fgv fgear rstep feed s t) ∧
    (∀ c : Params, ∃ t, runCommand (spdenc c board fgv fgear rstep feed ratio) s = .next t ∧
      RasterTokenWritten c board fgv fgear rstep feed s t)

/-- SPDENC in vector mode, with and without the diagonal suffix, for every table: `exec` is the
command for the provisioned parameters (R110 to R122). -/
def Obligations.SpdencWritesTheVectorToken : Prop :=
  ∀ (board : BitVec 4) (fgv : BitVec 1) (fgear : BitVec 3) (feed ratio : Word32) (s : State),
    s.fault = 0 → (fgv = 1 → fgear ≤ 4) →
    (∃ t, exec (.spdenc board fgv fgear 0 feed ratio) s = .next t ∧
      VectorTokenWritten Config.params board fgv fgear feed ratio s t) ∧
    (∀ c : Params, ∃ t, runCommand (spdenc c board fgv fgear 0 feed ratio) s = .next t ∧
      VectorTokenWritten c board fgv fgear feed ratio s t)

/-- SPDENC with an illegal forced gear or raster step raises IllegalCommand and writes nothing
(R110, 60_exceptions.md R253). -/
def Obligations.SpdencIllegalFieldsFault : Prop :=
  ∀ (board : BitVec 4) (fgv : BitVec 1) (fgear : BitVec 3) (rstep : BitVec 10)
    (feed ratio : Word32) (s : State), s.fault = 0 → (fgv = 1 ∧ 4 < fgear) ∨ 999 < rstep →
    exec (.spdenc board fgv fgear rstep feed ratio) s = .next (withFault 4 0x10 s)

/-- SPDDEC accepts exactly the tokens of the grammar and writes what they stand for; every other
text is MalformedToken (R125 to R129, 30_encoding.md R93). -/
def Obligations.SpddecAcceptsExactlyTheGrammar : Prop :=
  ∀ s : State, s.fault = 0 →
    (∀ f : TokenFields, Grammar s.tokenText f →
      exec .spddec s = .next
        { s with
          rv := BitVec.ofInt 32 f.value, rg := BitVec.ofNat 3 f.gear, rs := BitVec.ofNat 10 f.step,
          rd := BitVec.ofInt 32 f.diag, rr := BitVec.ofNat 10 f.rstep }) ∧
    ((∀ f : TokenFields, ¬Grammar s.tokenText f) →
      exec .spddec s = .next (withFault 3 (s.tokLen.setWidth 32) s))

/-- SPDDEC gives back what the three token forms were written from (R130). -/
def Obligations.SpddecInvertsTheTokenForms : Prop :=
  ∀ (s : State) (v d : Int) (gear : BitVec 3) (steps rstep : BitVec 10),
    s.fault = 0 → gear ≤ 4 → steps ≤ 999 → rstep ≤ 999 → decodable v → decodable d →
    (s.tokenText = tokenVectorBytes v gear.toNat →
      exec .spddec s = .next
        { s with rv := BitVec.ofInt 32 v, rg := gear, rs := 0, rd := 0, rr := 0 }) ∧
    (s.tokenText = tokenRasterBytes v gear.toNat rstep.toNat →
      exec .spddec s = .next
        { s with rv := BitVec.ofInt 32 v, rg := gear, rs := 0, rd := 0, rr := rstep }) ∧
    (s.tokenText = tokenDiagonalBytes v gear.toNat steps.toNat d →
      ¬ambiguousDiagonal v gear.toNat steps.toNat d →
      exec .spddec s = .next
        { s with rv := BitVec.ofInt 32 v, rg := gear, rs := steps, rd := BitVec.ofInt 32 d, rr := 0 })

/-- V2S: the two sentinels, else the rounded and saturated speed (R131). -/
def Obligations.V2sResult : Prop :=
  decodesAs 0x12 (fun w => .v2s (a0Field w) (a1Field w) (a2Field w)) ∧
  ∀ (value b m : Word32) (s : State), s.fault = 0 →
    exec (.v2s value b m) s = .next
      { s with
        rspd :=
          let den := 1000 * value.toInt - b.toInt
          if m = 0 ∨ den = 0 then 0
          else
            let q := Int.fdiv (50800 * m.toInt + den) (2 * den)
            BitVec.ofInt 32 (if q < -2147483648 then -2147483648
              else if 2147483647 < q then 2147483647 else q) }

/-- S2V: the register value of the bare linear relation (R132). -/
def Obligations.S2vResult : Prop :=
  decodesAs 0x13 (fun w => .s2v (a0Field w) (a1Field w) (a2Field w)) ∧
  ∀ (feed b m : Word32) (s : State), s.fault = 0 →
    exec (.s2v feed b m) s = .next
      { s with
        rv := BitVec.ofInt 32
          (registerValue Config.params.roundBiasMilli feed.toNat b.toInt m.toInt) }

/-- GEARSEL: the band table, no clamp first (R113, R133). -/
def Obligations.GearselFollowsTheBandTable : Prop :=
  decodesAs 0x14 (fun w => .gearsel (bits w 96 1) (a0Field w)) ∧
  ∀ (raster : BitVec 1) (feed : Word32) (s : State), s.fault = 0 →
    ∃ g : BitVec 3, exec (.gearsel raster feed) s = .next { s with rg := g } ∧
      let F := feed.toNat
      (F ≤ 25400 → g = 1) ∧ (25400 < F → F ≤ 60000 → g = 2) ∧
      (60000 < F → F < 127000 → g = if raster = 1 then 2 else 3) ∧
      (127000 ≤ F → F ≤ 320000 → g = if raster = 1 then 3 else 4) ∧
      (320000 < F → g = 4)

/-- TOKCLR (R135). -/
def Obligations.TokclrEmptiesTheToken : Prop :=
  decodesAs 0x18 (fun _ => .tokclr) ∧
  ∀ s : State, s.fault = 0 → exec .tokclr s = .next { s with tokLen := 0 }

/-- TOKPUT: one more byte, or IllegalCommand when the buffer is full (R136). -/
def Obligations.TokputAppendsOrFaults : Prop :=
  decodesAs 0x19 (fun w => .tokput (byteField w)) ∧
  ∀ (b : Byte) (s : State), s.fault = 0 →
    (∀ h : s.tokLen.toNat < 32, exec (.tokput b) s = .next
      { s with tok := s.tok.set s.tokLen.toNat b h, tokLen := s.tokLen + 1 }) ∧
    (s.tokLen = 32 → exec (.tokput b) s = .next (withFault 4 0x19 s))

/-- TOKEMIT: the TOKLEN bytes of the token enter the stream, first first (R137). -/
def Obligations.TokemitAppendsTheToken : Prop :=
  decodesAs 0x1A (fun _ => .tokemit) ∧
  ∀ s : State, s.fault = 0 →
    ∃ t, exec .tokemit s = .next t ∧ t = emitList (s.tok.toList.take s.tokLen.toNat) s ∧
      t.egv = s.egv ++ s.tok.toList.take s.tokLen.toNat ∧ t = withStreamsOf t s

/-! ### The streams (20_memory.md R55, R56) -/

/-- EMIT: `Emit(byte)` (41_motion_encoder.md R158, 20_memory.md R56). -/
def Obligations.EmitFeedsStreamAndFrameBuffer : Prop :=
  decodesAs 0x22 (fun w => .emit (byteField w)) ∧
  ∀ (b : Byte) (s : State), s.fault = 0 →
    (∀ h : s.fcnt.toNat < 29, exec (.emit b) s = .next
      { s with
        egv := s.egv ++ [b], fbuf := s.fbuf.set s.fcnt.toNat b (by omega), fcnt := s.fcnt + 1 }) ∧
    (s.fcnt = 29 → exec (.emit b) s = .next
      { s with
        egv := s.egv ++ [b], fbuf := s.fbuf.set 29 b, fcnt := 0,
        frames := s.frames ++ [frameOf (s.fbuf.set 29 b)] })

/-- `Emit(list)`: the list enters `S` and the framer in order, and nothing else changes
(20_memory.md R55, R56). -/
def Obligations.EmitListFeedsStreamAndFramer : Prop :=
  ∀ (bs : List Byte) (s : State),
    (emitList bs s).egv = s.egv ++ bs ∧ emitList bs s = withStreamsOf (emitList bs s) s ∧
    (s.fcnt ≤ 29 → (emitList bs s).framed = s.framed ++ bs ∧ (emitList bs s).fcnt ≤ 29 ∧
      (emitList bs s).frames.length = s.frames.length + (s.fcnt.toNat + bs.length) / 30)

/-! ### motion_encoder (41_motion_encoder.md) -/

/-- The direction, sub-direction and laser bytes (30_encoding.md R81, R82). -/
def Obligations.DirectionAndLaserBytes : Prop :=
  dirByte 1 = 0x42 ∧ dirByte 2 = 0x54 ∧ dirByte 3 = 0x4C ∧ dirByte 4 = 0x52 ∧ dirByte 5 = 0x4D ∧
  axByte 1 = 0x42 ∧ axByte 2 = 0x54 ∧ ayByte 1 = 0x4C ∧ ayByte 2 = 0x52 ∧
  laserByte 1 = 0x44 ∧ laserByte 0 = 0x55

/-- The distance code is the bytes of R84 and R150, and it reads back: every tick and every byte is
accounted for (30_encoding.md R84, R85, 41_motion_encoder.md R150). -/
def Obligations.DistanceCodeReadsBack : Prop :=
  ∀ n : Nat, encodeDistance n = distanceBytes n ∧ decodeDistance (encodeDistance n) = n ∧
    decodeDistanceFrom 0 (encodeDistance n) = (n, [])

/-- MOVE in the current state accumulates and emits nothing (R152). -/
def Obligations.MoveAccumulatesInTheSameState : Prop :=
  ∀ (dir : BitVec 3) (laser : BitVec 1) (ax ay : BitVec 2) (n : Word32) (s : State),
    s.fault = 0 → dir ≠ 0 → dir ≤ 5 → ax ≠ 3 → ay ≠ 3 → 0 ≤ n.toInt →
    dir = s.mDir → laser = s.mLaser → (ax = 0 ∨ ax = s.mAx) → (ay = 0 ∨ ay = s.mAy) →
    (s.mDist.toNat + n.toNat < 2 ^ 31 →
      exec (.move dir laser ax ay n) s = .next { s with mDist := s.mDist + n.setWidth 31 }) ∧
    (2 ^ 31 ≤ s.mDist.toNat + n.toNat →
      exec (.move dir laser ax ay n) s = .next (withFault 1 n s))

/-- MOVE in a new state flushes, emits what changed and starts a run (R152, R154). -/
def Obligations.MoveStartsANewRun : Prop :=
  ∀ (dir : BitVec 3) (laser : BitVec 1) (ax ay : BitVec 2) (n : Word32) (s : State),
    s.fault = 0 → dir ≠ 0 → dir ≤ 5 → ax ≠ 3 → ay ≠ 3 → 0 ≤ n.toInt →
    let rax := if ax = 0 then s.mAx else ax
    let ray := if ay = 0 then s.mAy else ay
    ¬(dir = s.mDir ∧ laser = s.mLaser ∧ rax = s.mAx ∧ ray = s.mAy) →
    exec (.move dir laser ax ay n) s = .next
      { emitList (runStartBytes laser rax ray s) s with
        mDir := dir, mDist := n.setWidth 31, mLaser := laser,
        mAx := if dir = 1 then 1 else if dir = 2 then 2 else rax,
        mAy := if dir = 3 then 1 else if dir = 4 then 2 else ray }

/-- MOVE with an illegal field is IllegalCommand whatever the distance; with legal fields a negative
distance is InvalidDistance (R156, 60_exceptions.md R258). -/
def Obligations.MoveFaultsBeforeAnyEffect : Prop :=
  ∀ (dir : BitVec 3) (laser : BitVec 1) (ax ay : BitVec 2) (n : Word32) (s : State), s.fault = 0 →
    (dir = 0 ∨ 5 < dir ∨ ax = 3 ∨ ay = 3 →
      exec (.move dir laser ax ay n) s = .next (withFault 4 0x20 s)) ∧
    (dir ≠ 0 → dir ≤ 5 → ax ≠ 3 → ay ≠ 3 → n.toInt < 0 →
      exec (.move dir laser ax ay n) s = .next (withFault 1 n s))

/-- Two moves of one state coalesce into one of the summed distance, unless a cardinal move
contradicts its own axis (R160). -/
def Obligations.IdenticalMovesCoalesce : Prop :=
  ∀ (dir : BitVec 3) (laser : BitVec 1) (ax ay : BitVec 2) (a b : Word32) (s u v : State),
    s.fault = 0 → contradicts dir ax ay = false →
    exec (.move dir laser ax ay a) s = .next u → exec (.move dir laser ax ay b) u = .next v →
    v.fault = 0 → exec (.move dir laser ax ay (a + b)) s = .next v

/-- FLUSH emits the pending run and nothing else changes; a second FLUSH does nothing (R153, R157). -/
def Obligations.FlushEmitsThePendingRunOnce : Prop :=
  decodesAs 0x21 (fun _ => .flush) ∧
  (∀ s : State, s.fault = 0 → exec .flush s = .next
    { emitList (if s.mDist = 0 then [] else dirByte s.mDir :: encodeDistance s.mDist.toNat) s with
      mDist := 0 }) ∧
  (∀ s t : State, exec .flush s = .next t → exec .flush t = .next t)

/-- DIST: the bare distance code, byte by byte, or InvalidDistance (R150, R159). -/
def Obligations.DistEmitsTheDistanceCode : Prop :=
  decodesAs 0x23 (fun w => .dist (a0Field w)) ∧
  ∀ (n : Word32) (s : State), s.fault = 0 →
    (0 ≤ n.toInt → exec (.dist n) s = .next (emitList (distanceBytes n.toNat) s)) ∧
    (n.toInt < 0 → exec (.dist n) s = .next (withFault 1 n s))

/-! ### line_rasterizer (42_line_rasterizer.md) -/

/-- LINE of zero length does nothing; an operand of -2^31 is InvalidDistance (R180, R182). -/
def Obligations.LineZeroAndOutOfRange : Prop :=
  ∀ (laser : BitVec 1) (dx dy : Word32) (s : State), s.fault = 0 →
    exec (.line laser 0 0) s = .next s ∧
    (dx = 0x80000000 ∨ dy = 0x80000000 →
      exec (.line laser dx dy) s = .next (withFault 1 0x80000000 s))

/-- Horizontal, vertical and 45-degree lines are one MOVE (R180 to R182). -/
def Obligations.SimpleLinesAreOneMove : Prop :=
  ∀ (laser : BitVec 1) (n : Word32) (s : State), 0 < n.toInt →
    exec (.line laser n 0) s = exec (.move 1 laser 0 0 n) s ∧
    exec (.line laser (-n) 0) s = exec (.move 2 laser 0 0 n) s ∧
    exec (.line laser 0 n) s = exec (.move 3 laser 0 0 n) s ∧
    exec (.line laser 0 (-n)) s = exec (.move 4 laser 0 0 n) s ∧
    exec (.line laser n n) s = exec (.move 5 laser 1 1 n) s ∧
    exec (.line laser n (-n)) s = exec (.move 5 laser 1 2 n) s ∧
    exec (.line laser (-n) n) s = exec (.move 5 laser 2 1 n) s ∧
    exec (.line laser (-n) (-n)) s = exec (.move 5 laser 2 2 n) s

/-- The rounding of R183 and the accumulator of R184 classify the steps alike. -/
def Obligations.RoundingAndAccumulatorAgree : Prop :=
  ∀ major minor : Nat, 0 < minor → minor < major →
    lineSteps major minor = accumulatorSteps major minor major major

/-- The runs of a general line: they alternate, none is empty, and their ticks reconstruct the line
(R185 to R188). -/
def Obligations.LineRunsReconstructTheLine : Prop :=
  ∀ major minor : Nat, 0 < minor → minor < major →
    let runs := lineRuns major minor
    let ticks (k : StepKind) := ((runs.filter fun r => r.1 = k).map Prod.snd).sum
    runs.flatMap (fun r => List.replicate r.2 r.1) = lineSteps major minor ∧
    (∀ r ∈ runs, 0 < r.2) ∧ runs.IsChain (fun a b => a.1 ≠ b.1) ∧
    ticks .primary + ticks .diagonal = major ∧ ticks .diagonal = minor ∧
    runs.length ≤ 2 * minor + 1

/-- A general line is the integer Bresenham walk, tick by tick; where its first run coalesces with the
pending run and overflows it, LINE is InvalidDistance with that run's length and makes no move (R180,
R183 to R185, 60_exceptions.md R250). -/
def Obligations.GeneralLineIsTheBresenhamWalk : Prop :=
  ∀ (laser : BitVec 1) (dx dy : Word32) (s : State), s.fault = 0 →
    dx ≠ 0 → dy ≠ 0 → dx ≠ 0x80000000 → dy ≠ 0x80000000 →
    dx.toInt.natAbs ≠ dy.toInt.natAbs →
    let adx := dx.toInt.natAbs
    let ady := dy.toInt.natAbs
    let sx : BitVec 2 := if 0 < dx.toInt then 1 else 2
    let sy : BitVec 2 := if 0 < dy.toInt then 1 else 2
    let pdir : BitVec 3 :=
      if ady < adx then (if 0 < dx.toInt then 1 else 2) else (if 0 < dy.toInt then 3 else 4)
    let walk := tickWalk laser pdir sx sy (max adx ady) (min adx ady)
    let run := firstLineRun dx dy
    let coalesces := (match run.1 with | .primary => pdir | .diagonal => 5) = s.mDir ∧
      laser = s.mLaser ∧ sx = s.mAx ∧ sy = s.mAy
    (¬coalesces ∨ s.mDist.toNat + run.2 < 2 ^ 31 →
      ∃ t, exec (.line laser dx dy) s = .next t ∧ execAll walk s = .next t ∧ t.fault = 0) ∧
    (coalesces → 2 ^ 31 ≤ s.mDist.toNat + run.2 →
      exec (.line laser dx dy) s = .next (withFault 1 (BitVec.ofNat 32 run.2) s))

/-! ### crc8_framer (44_crc8_framer.md) -/

/-- FCLOSE pads the partial frame with FILLER and emits it; without one it does nothing (R220). -/
def Obligations.FclosePadsThePartialFrame : Prop :=
  decodesAs 0x30 (fun _ => .fclose) ∧
  ∀ s : State, s.fault = 0 →
    (s.fcnt = 0 → exec .fclose s = .next s) ∧
    (s.fcnt ≠ 0 →
      let p : Payload :=
        Vector.ofFn fun i => if i.val < s.fcnt.toNat then s.fbuf[i] else 0x46
      exec .fclose s = .next { s with fbuf := p, frames := s.frames ++ [frameOf p], fcnt := 0 })

/-- The wire format of a frame with its CRC-8, bit by bit, and a leading zero byte does not change the
CRC (30_encoding.md R95, R96). -/
def Obligations.FrameWireFormat : Prop :=
  (∀ p : Payload,
    (frameOf p)[0] = 0xA6 ∧ (frameOf p)[1] = 0x00 ∧
    (∀ (i : Nat) (h : i < 30), (frameOf p)[i + 2] = p[i]) ∧
    (frameOf p)[32] = 0xA6 ∧ (frameOf p)[33] = crcOfBytes (0x00 :: p.toList)) ∧
  (∀ p : List Byte, crc8 p = crcOfBytes p) ∧ (∀ p : List Byte, crc8 (0x00 :: p) = crc8 p)

/-- A single changed bit changes the CRC, which is CRC-8 as R215 computes it (R224). -/
def Obligations.CrcDetectsEverySingleBitChange : Prop :=
  (∀ bs : List Byte, crc8 bs = crcOfBytes bs) ∧
  ∀ (before after : List Byte) (b : Byte) (k : Nat), k < 8 →
    crc8 (before ++ b :: after) ≠ crc8 (before ++ (b ^^^ (1#8 <<< k)) :: after)

/-- CRC-8 bit by bit, its value for an empty and a longer list and its check value (R215 to R217);
CRCCLR clears RCRC and CRCUPD folds one byte in; together they compute `Crc8` of a list (R222, R223). -/
def Obligations.CrcCommandsComputeTheCrc : Prop :=
  decodesAs 0x31 (fun _ => .crcclr) ∧ decodesAs 0x32 (fun w => .crcupd (byteField w)) ∧
  (∀ crc b : Byte, crc8Byte crc b = crcOfByte crc b) ∧
  crc8 [] = 0x00 ∧ (∀ (bs : List Byte) (b : Byte), crc8 (bs ++ [b]) = crcOfByte (crc8 bs) b) ∧
  crc8 [0x31, 0x32, 0x33, 0x34, 0x35, 0x36, 0x37, 0x38, 0x39] = 0xA1 ∧
  ∀ s : State, s.fault = 0 →
    exec .crcclr s = .next { s with rcrc := 0 } ∧
    (∀ b : Byte, exec (.crcupd b) s = .next { s with rcrc := crcOfByte s.rcrc b }) ∧
    (∀ bs : List Byte,
      execAll (.crcclr :: bs.map .crcupd) s = .next { s with rcrc := crc8 bs })

/-- FLUSH then FCLOSE ends a job: no run, no partial frame, and every byte of the stream is in a
frame (20_memory.md R62). -/
def Obligations.FlushAndFcloseDrainTheJob : Prop :=
  ∀ s : State, s.fault = 0 → s.fcnt ≤ 29 →
    ∃ t, execAll [.flush, .fclose] s = .next t ∧ t.jobDone = true ∧
      t.egv = s.egv ++ s.flushBytes ∧
      ∃ k, k ≤ 29 ∧
        t.frames.flatMap payloadOf = s.framed ++ s.flushBytes ++ List.replicate k 0x46

/-! ### The rows of the output (30_encoding.md R80 to R95; what executing such a row means is the
model's choice, log 1) -/

/-- Each control, direction and laser byte row puts its byte into the stream, as EMIT of that byte
does. -/
def Obligations.ByteRowsEmitTheirByte : Prop :=
  ∀ s : State, s.fault = 0 →
    exec .ctrlI s = .next (emit 0x49 s) ∧ exec .ctrlS s = .next (emit 0x53 s) ∧
    exec .ctrl1 s = .next (emit 0x31 s) ∧ exec .ctrlE s = .next (emit 0x45 s) ∧
    exec .ctrlN s = .next (emit 0x4E s) ∧ exec .ctrlR s = .next (emit 0x52 s) ∧
    exec .ctrlL s = .next (emit 0x4C s) ∧ exec .ctrlB s = .next (emit 0x42 s) ∧
    exec .ctrlF s = .next (emit 0x46 s) ∧ exec .ctrlAt s = .next (emit 0x40 s) ∧
    exec .dirRight s = .next (emit 0x42 s) ∧ exec .dirLeft s = .next (emit 0x54 s) ∧
    exec .dirUp s = .next (emit 0x4C s) ∧ exec .dirDown s = .next (emit 0x52 s) ∧
    exec .dirDiag s = .next (emit 0x4D s) ∧ exec .laserOn s = .next (emit 0x44 s) ∧
    exec .laserOff s = .next (emit 0x55 s)

/-- Each distance row puts the distance code of its ticks into the stream; RUN puts a run. -/
def Obligations.DistanceRowsEmitTheirTicks : Prop :=
  ∀ s : State, s.fault = 0 →
    exec .dist0 s = .next s ∧
    exec .dist255 s = .next (emitList (distanceBytes 255) s) ∧
    (∀ r, 1 ≤ r → r ≤ 25 → exec (.dist1to25 r) s = .next (emitList (distanceBytes r) s)) ∧
    (∀ r, 26 ≤ r → r ≤ 51 → exec (.dist26to51 r) s = .next (emitList (distanceBytes r) s)) ∧
    (∀ r, 52 ≤ r → r ≤ 254 → exec (.dist52to254 r) s = .next (emitList (distanceBytes r) s)) ∧
    (∀ (d : BitVec 3) (n : BitVec 31),
      exec (.run d n) s = .next (emitList (dirByte d :: distanceBytes n.toNat) s))

/-- Each token row puts its text into the stream (30_encoding.md R89 to R92). -/
def Obligations.TokenRowsEmitTheirText : Prop :=
  ∀ (v d : Int) (gear : BitVec 3) (steps rstep : BitVec 10) (s : State), s.fault = 0 →
    exec (.valueField v) s = .next (emitList (encodeValue v) s) ∧
    exec (.tokenVector v gear) s =
      .next (emitList ([0x43, 0x56] ++ encodeValue v ++ dec1 gear.toNat) s) ∧
    exec (.tokenDiagonal v gear steps d) s =
      .next (emitList ([0x43, 0x56] ++ encodeValue v ++ dec1 gear.toNat ++ dec3 steps.toNat ++
        encodeValue d) s) ∧
    exec (.tokenRaster v gear rstep) s =
      .next (emitList ([0x56] ++ encodeValue v ++ dec1 gear.toNat ++ [0x47] ++ dec3 rstep.toNat) s)

/-- The FRAME row appends exactly the frame with its payload, after the partial frame where there is
one. -/
def Obligations.FrameRowAppendsTheFrame : Prop :=
  ∀ (p : Payload) (s : State), s.fault = 0 → s.fcnt ≤ 29 →
    ∃ u, exec .fclose s = .next u ∧
      exec (.frame p) s = .next
        { u with egv := s.egv ++ p.toList, fbuf := p, frames := u.frames ++ [frameOf p], fcnt := 0 }
end

