-- ==== Sys2Proof/Laws/State.lean ====
section
/-! SUPPORT. For each named update of State, one simp lemma per field it leaves alone, so that no
later proof unfolds an update to see that; then the fields each update writes. -/

namespace Sys2Proof.Machine

/-! ### appendByte -/

@[simp] theorem appendByte_mDir (b : Byte) (s : State) : (appendByte b s).mDir = s.mDir := rfl
@[simp] theorem appendByte_mDist (b : Byte) (s : State) : (appendByte b s).mDist = s.mDist := rfl
@[simp] theorem appendByte_mLaser (b : Byte) (s : State) : (appendByte b s).mLaser = s.mLaser := rfl
@[simp] theorem appendByte_mAx (b : Byte) (s : State) : (appendByte b s).mAx = s.mAx := rfl
@[simp] theorem appendByte_mAy (b : Byte) (s : State) : (appendByte b s).mAy = s.mAy := rfl
@[simp] theorem appendByte_rv (b : Byte) (s : State) : (appendByte b s).rv = s.rv := rfl
@[simp] theorem appendByte_rg (b : Byte) (s : State) : (appendByte b s).rg = s.rg := rfl
@[simp] theorem appendByte_rs (b : Byte) (s : State) : (appendByte b s).rs = s.rs := rfl
@[simp] theorem appendByte_rd (b : Byte) (s : State) : (appendByte b s).rd = s.rd := rfl
@[simp] theorem appendByte_rr (b : Byte) (s : State) : (appendByte b s).rr = s.rr := rfl
@[simp] theorem appendByte_rspd (b : Byte) (s : State) : (appendByte b s).rspd = s.rspd := rfl
@[simp] theorem appendByte_fault (b : Byte) (s : State) : (appendByte b s).fault = s.fault := rfl
@[simp] theorem appendByte_finfo (b : Byte) (s : State) : (appendByte b s).finfo = s.finfo := rfl
@[simp] theorem appendByte_tok (b : Byte) (s : State) : (appendByte b s).tok = s.tok := rfl
@[simp] theorem appendByte_tokLen (b : Byte) (s : State) : (appendByte b s).tokLen = s.tokLen := rfl
@[simp] theorem appendByte_rcrc (b : Byte) (s : State) : (appendByte b s).rcrc = s.rcrc := rfl
@[simp] theorem appendByte_frames (b : Byte) (s : State) : (appendByte b s).frames = s.frames := rfl
@[simp] theorem appendByte_queue (b : Byte) (s : State) : (appendByte b s).queue = s.queue := rfl
@[simp] theorem appendByte_history (b : Byte) (s : State) : (appendByte b s).history = s.history := rfl
@[simp] theorem appendByte_freeIdx (b : Byte) (s : State) : (appendByte b s).freeIdx = s.freeIdx := rfl

/-! ### emitFrame -/

@[simp] theorem emitFrame_mDir (s : State) : (emitFrame s).mDir = s.mDir := rfl
@[simp] theorem emitFrame_mDist (s : State) : (emitFrame s).mDist = s.mDist := rfl
@[simp] theorem emitFrame_mLaser (s : State) : (emitFrame s).mLaser = s.mLaser := rfl
@[simp] theorem emitFrame_mAx (s : State) : (emitFrame s).mAx = s.mAx := rfl
@[simp] theorem emitFrame_mAy (s : State) : (emitFrame s).mAy = s.mAy := rfl
@[simp] theorem emitFrame_rv (s : State) : (emitFrame s).rv = s.rv := rfl
@[simp] theorem emitFrame_rg (s : State) : (emitFrame s).rg = s.rg := rfl
@[simp] theorem emitFrame_rs (s : State) : (emitFrame s).rs = s.rs := rfl
@[simp] theorem emitFrame_rd (s : State) : (emitFrame s).rd = s.rd := rfl
@[simp] theorem emitFrame_rr (s : State) : (emitFrame s).rr = s.rr := rfl
@[simp] theorem emitFrame_rspd (s : State) : (emitFrame s).rspd = s.rspd := rfl
@[simp] theorem emitFrame_fault (s : State) : (emitFrame s).fault = s.fault := rfl
@[simp] theorem emitFrame_finfo (s : State) : (emitFrame s).finfo = s.finfo := rfl
@[simp] theorem emitFrame_tok (s : State) : (emitFrame s).tok = s.tok := rfl
@[simp] theorem emitFrame_tokLen (s : State) : (emitFrame s).tokLen = s.tokLen := rfl
@[simp] theorem emitFrame_fbuf (s : State) : (emitFrame s).fbuf = s.fbuf := rfl
@[simp] theorem emitFrame_rcrc (s : State) : (emitFrame s).rcrc = s.rcrc := rfl
@[simp] theorem emitFrame_egv (s : State) : (emitFrame s).egv = s.egv := rfl
@[simp] theorem emitFrame_queue (s : State) : (emitFrame s).queue = s.queue := rfl
@[simp] theorem emitFrame_history (s : State) : (emitFrame s).history = s.history := rfl
@[simp] theorem emitFrame_freeIdx (s : State) : (emitFrame s).freeIdx = s.freeIdx := rfl

/-! ### emit -/

@[simp] theorem emit_mDir (b : Byte) (s : State) : (emit b s).mDir = s.mDir := by
  unfold emit; simp only; split <;> rfl
@[simp] theorem emit_mDist (b : Byte) (s : State) : (emit b s).mDist = s.mDist := by
  unfold emit; simp only; split <;> rfl
@[simp] theorem emit_mLaser (b : Byte) (s : State) : (emit b s).mLaser = s.mLaser := by
  unfold emit; simp only; split <;> rfl
@[simp] theorem emit_mAx (b : Byte) (s : State) : (emit b s).mAx = s.mAx := by
  unfold emit; simp only; split <;> rfl
@[simp] theorem emit_mAy (b : Byte) (s : State) : (emit b s).mAy = s.mAy := by
  unfold emit; simp only; split <;> rfl
@[simp] theorem emit_rv (b : Byte) (s : State) : (emit b s).rv = s.rv := by
  unfold emit; simp only; split <;> rfl
@[simp] theorem emit_rg (b : Byte) (s : State) : (emit b s).rg = s.rg := by
  unfold emit; simp only; split <;> rfl
@[simp] theorem emit_rs (b : Byte) (s : State) : (emit b s).rs = s.rs := by
  unfold emit; simp only; split <;> rfl
@[simp] theorem emit_rd (b : Byte) (s : State) : (emit b s).rd = s.rd := by
  unfold emit; simp only; split <;> rfl
@[simp] theorem emit_rr (b : Byte) (s : State) : (emit b s).rr = s.rr := by
  unfold emit; simp only; split <;> rfl
@[simp] theorem emit_rspd (b : Byte) (s : State) : (emit b s).rspd = s.rspd := by
  unfold emit; simp only; split <;> rfl
@[simp] theorem emit_fault (b : Byte) (s : State) : (emit b s).fault = s.fault := by
  unfold emit; simp only; split <;> rfl
@[simp] theorem emit_finfo (b : Byte) (s : State) : (emit b s).finfo = s.finfo := by
  unfold emit; simp only; split <;> rfl
@[simp] theorem emit_tok (b : Byte) (s : State) : (emit b s).tok = s.tok := by
  unfold emit; simp only; split <;> rfl
@[simp] theorem emit_tokLen (b : Byte) (s : State) : (emit b s).tokLen = s.tokLen := by
  unfold emit; simp only; split <;> rfl
@[simp] theorem emit_rcrc (b : Byte) (s : State) : (emit b s).rcrc = s.rcrc := by
  unfold emit; simp only; split <;> rfl
@[simp] theorem emit_queue (b : Byte) (s : State) : (emit b s).queue = s.queue := by
  unfold emit; simp only; split <;> rfl
@[simp] theorem emit_history (b : Byte) (s : State) : (emit b s).history = s.history := by
  unfold emit; simp only; split <;> rfl
@[simp] theorem emit_freeIdx (b : Byte) (s : State) : (emit b s).freeIdx = s.freeIdx := by
  unfold emit; simp only; split <;> rfl

/-! ### emitList -/

@[simp] theorem emitList_mDir (bs : List Byte) (s : State) : (emitList bs s).mDir = s.mDir := by
  induction bs generalizing s with
  | nil => rfl
  | cons b bs ih => simpa [emitList] using ih (emit b s)
@[simp] theorem emitList_mDist (bs : List Byte) (s : State) : (emitList bs s).mDist = s.mDist := by
  induction bs generalizing s with
  | nil => rfl
  | cons b bs ih => simpa [emitList] using ih (emit b s)
@[simp] theorem emitList_mLaser (bs : List Byte) (s : State) : (emitList bs s).mLaser = s.mLaser := by
  induction bs generalizing s with
  | nil => rfl
  | cons b bs ih => simpa [emitList] using ih (emit b s)
@[simp] theorem emitList_mAx (bs : List Byte) (s : State) : (emitList bs s).mAx = s.mAx := by
  induction bs generalizing s with
  | nil => rfl
  | cons b bs ih => simpa [emitList] using ih (emit b s)
@[simp] theorem emitList_mAy (bs : List Byte) (s : State) : (emitList bs s).mAy = s.mAy := by
  induction bs generalizing s with
  | nil => rfl
  | cons b bs ih => simpa [emitList] using ih (emit b s)
@[simp] theorem emitList_rv (bs : List Byte) (s : State) : (emitList bs s).rv = s.rv := by
  induction bs generalizing s with
  | nil => rfl
  | cons b bs ih => simpa [emitList] using ih (emit b s)
@[simp] theorem emitList_rg (bs : List Byte) (s : State) : (emitList bs s).rg = s.rg := by
  induction bs generalizing s with
  | nil => rfl
  | cons b bs ih => simpa [emitList] using ih (emit b s)
@[simp] theorem emitList_rs (bs : List Byte) (s : State) : (emitList bs s).rs = s.rs := by
  induction bs generalizing s with
  | nil => rfl
  | cons b bs ih => simpa [emitList] using ih (emit b s)
@[simp] theorem emitList_rd (bs : List Byte) (s : State) : (emitList bs s).rd = s.rd := by
  induction bs generalizing s with
  | nil => rfl
  | cons b bs ih => simpa [emitList] using ih (emit b s)
@[simp] theorem emitList_rr (bs : List Byte) (s : State) : (emitList bs s).rr = s.rr := by
  induction bs generalizing s with
  | nil => rfl
  | cons b bs ih => simpa [emitList] using ih (emit b s)
@[simp] theorem emitList_rspd (bs : List Byte) (s : State) : (emitList bs s).rspd = s.rspd := by
  induction bs generalizing s with
  | nil => rfl
  | cons b bs ih => simpa [emitList] using ih (emit b s)
@[simp] theorem emitList_fault (bs : List Byte) (s : State) : (emitList bs s).fault = s.fault := by
  induction bs generalizing s with
  | nil => rfl
  | cons b bs ih => simpa [emitList] using ih (emit b s)
@[simp] theorem emitList_finfo (bs : List Byte) (s : State) : (emitList bs s).finfo = s.finfo := by
  induction bs generalizing s with
  | nil => rfl
  | cons b bs ih => simpa [emitList] using ih (emit b s)
@[simp] theorem emitList_tok (bs : List Byte) (s : State) : (emitList bs s).tok = s.tok := by
  induction bs generalizing s with
  | nil => rfl
  | cons b bs ih => simpa [emitList] using ih (emit b s)
@[simp] theorem emitList_tokLen (bs : List Byte) (s : State) : (emitList bs s).tokLen = s.tokLen := by
  induction bs generalizing s with
  | nil => rfl
  | cons b bs ih => simpa [emitList] using ih (emit b s)
@[simp] theorem emitList_rcrc (bs : List Byte) (s : State) : (emitList bs s).rcrc = s.rcrc := by
  induction bs generalizing s with
  | nil => rfl
  | cons b bs ih => simpa [emitList] using ih (emit b s)
@[simp] theorem emitList_queue (bs : List Byte) (s : State) : (emitList bs s).queue = s.queue := by
  induction bs generalizing s with
  | nil => rfl
  | cons b bs ih => simpa [emitList] using ih (emit b s)
@[simp] theorem emitList_history (bs : List Byte) (s : State) : (emitList bs s).history = s.history := by
  induction bs generalizing s with
  | nil => rfl
  | cons b bs ih => simpa [emitList] using ih (emit b s)
@[simp] theorem emitList_freeIdx (bs : List Byte) (s : State) : (emitList bs s).freeIdx = s.freeIdx := by
  induction bs generalizing s with
  | nil => rfl
  | cons b bs ih => simpa [emitList] using ih (emit b s)

/-! ### padFrame -/

@[simp] theorem padFrame_mDir (s : State) : (padFrame s).mDir = s.mDir := by simp only [padFrame]
@[simp] theorem padFrame_mDist (s : State) : (padFrame s).mDist = s.mDist := by simp only [padFrame]
@[simp] theorem padFrame_mLaser (s : State) : (padFrame s).mLaser = s.mLaser := by simp only [padFrame]
@[simp] theorem padFrame_mAx (s : State) : (padFrame s).mAx = s.mAx := by simp only [padFrame]
@[simp] theorem padFrame_mAy (s : State) : (padFrame s).mAy = s.mAy := by simp only [padFrame]
@[simp] theorem padFrame_rv (s : State) : (padFrame s).rv = s.rv := by simp only [padFrame]
@[simp] theorem padFrame_rg (s : State) : (padFrame s).rg = s.rg := by simp only [padFrame]
@[simp] theorem padFrame_rs (s : State) : (padFrame s).rs = s.rs := by simp only [padFrame]
@[simp] theorem padFrame_rd (s : State) : (padFrame s).rd = s.rd := by simp only [padFrame]
@[simp] theorem padFrame_rr (s : State) : (padFrame s).rr = s.rr := by simp only [padFrame]
@[simp] theorem padFrame_rspd (s : State) : (padFrame s).rspd = s.rspd := by simp only [padFrame]
@[simp] theorem padFrame_fault (s : State) : (padFrame s).fault = s.fault := by simp only [padFrame]
@[simp] theorem padFrame_finfo (s : State) : (padFrame s).finfo = s.finfo := by simp only [padFrame]
@[simp] theorem padFrame_tok (s : State) : (padFrame s).tok = s.tok := by simp only [padFrame]
@[simp] theorem padFrame_tokLen (s : State) : (padFrame s).tokLen = s.tokLen := by simp only [padFrame]
@[simp] theorem padFrame_rcrc (s : State) : (padFrame s).rcrc = s.rcrc := by simp only [padFrame]
@[simp] theorem padFrame_egv (s : State) : (padFrame s).egv = s.egv := by simp only [padFrame]
@[simp] theorem padFrame_frames (s : State) : (padFrame s).frames = s.frames := by simp only [padFrame]
@[simp] theorem padFrame_queue (s : State) : (padFrame s).queue = s.queue := by simp only [padFrame]
@[simp] theorem padFrame_history (s : State) : (padFrame s).history = s.history := by simp only [padFrame]
@[simp] theorem padFrame_freeIdx (s : State) : (padFrame s).freeIdx = s.freeIdx := by simp only [padFrame]

/-! ### closeFrame -/

@[simp] theorem closeFrame_mDir (s : State) : (closeFrame s).mDir = s.mDir := by
  unfold closeFrame; split <;> simp
@[simp] theorem closeFrame_mDist (s : State) : (closeFrame s).mDist = s.mDist := by
  unfold closeFrame; split <;> simp
@[simp] theorem closeFrame_mLaser (s : State) : (closeFrame s).mLaser = s.mLaser := by
  unfold closeFrame; split <;> simp
@[simp] theorem closeFrame_mAx (s : State) : (closeFrame s).mAx = s.mAx := by
  unfold closeFrame; split <;> simp
@[simp] theorem closeFrame_mAy (s : State) : (closeFrame s).mAy = s.mAy := by
  unfold closeFrame; split <;> simp
@[simp] theorem closeFrame_rv (s : State) : (closeFrame s).rv = s.rv := by
  unfold closeFrame; split <;> simp
@[simp] theorem closeFrame_rg (s : State) : (closeFrame s).rg = s.rg := by
  unfold closeFrame; split <;> simp
@[simp] theorem closeFrame_rs (s : State) : (closeFrame s).rs = s.rs := by
  unfold closeFrame; split <;> simp
@[simp] theorem closeFrame_rd (s : State) : (closeFrame s).rd = s.rd := by
  unfold closeFrame; split <;> simp
@[simp] theorem closeFrame_rr (s : State) : (closeFrame s).rr = s.rr := by
  unfold closeFrame; split <;> simp
@[simp] theorem closeFrame_rspd (s : State) : (closeFrame s).rspd = s.rspd := by
  unfold closeFrame; split <;> simp
@[simp] theorem closeFrame_fault (s : State) : (closeFrame s).fault = s.fault := by
  unfold closeFrame; split <;> simp
@[simp] theorem closeFrame_finfo (s : State) : (closeFrame s).finfo = s.finfo := by
  unfold closeFrame; split <;> simp
@[simp] theorem closeFrame_tok (s : State) : (closeFrame s).tok = s.tok := by
  unfold closeFrame; split <;> simp
@[simp] theorem closeFrame_tokLen (s : State) : (closeFrame s).tokLen = s.tokLen := by
  unfold closeFrame; split <;> simp
@[simp] theorem closeFrame_rcrc (s : State) : (closeFrame s).rcrc = s.rcrc := by
  unfold closeFrame; split <;> simp
@[simp] theorem closeFrame_egv (s : State) : (closeFrame s).egv = s.egv := by
  unfold closeFrame; split <;> simp
@[simp] theorem closeFrame_queue (s : State) : (closeFrame s).queue = s.queue := by
  unfold closeFrame; split <;> simp
@[simp] theorem closeFrame_history (s : State) : (closeFrame s).history = s.history := by
  unfold closeFrame; split <;> simp
@[simp] theorem closeFrame_freeIdx (s : State) : (closeFrame s).freeIdx = s.freeIdx := by
  unfold closeFrame; split <;> simp

/-! ### writeToken -/

@[simp] theorem writeToken_mDir (bs : List Byte) (s : State) : (writeToken bs s).mDir = s.mDir := by simp only [writeToken]
@[simp] theorem writeToken_mDist (bs : List Byte) (s : State) : (writeToken bs s).mDist = s.mDist := by simp only [writeToken]
@[simp] theorem writeToken_mLaser (bs : List Byte) (s : State) : (writeToken bs s).mLaser = s.mLaser := by simp only [writeToken]
@[simp] theorem writeToken_mAx (bs : List Byte) (s : State) : (writeToken bs s).mAx = s.mAx := by simp only [writeToken]
@[simp] theorem writeToken_mAy (bs : List Byte) (s : State) : (writeToken bs s).mAy = s.mAy := by simp only [writeToken]
@[simp] theorem writeToken_rv (bs : List Byte) (s : State) : (writeToken bs s).rv = s.rv := by simp only [writeToken]
@[simp] theorem writeToken_rg (bs : List Byte) (s : State) : (writeToken bs s).rg = s.rg := by simp only [writeToken]
@[simp] theorem writeToken_rs (bs : List Byte) (s : State) : (writeToken bs s).rs = s.rs := by simp only [writeToken]
@[simp] theorem writeToken_rd (bs : List Byte) (s : State) : (writeToken bs s).rd = s.rd := by simp only [writeToken]
@[simp] theorem writeToken_rr (bs : List Byte) (s : State) : (writeToken bs s).rr = s.rr := by simp only [writeToken]
@[simp] theorem writeToken_rspd (bs : List Byte) (s : State) : (writeToken bs s).rspd = s.rspd := by simp only [writeToken]
@[simp] theorem writeToken_fault (bs : List Byte) (s : State) : (writeToken bs s).fault = s.fault := by simp only [writeToken]
@[simp] theorem writeToken_finfo (bs : List Byte) (s : State) : (writeToken bs s).finfo = s.finfo := by simp only [writeToken]
@[simp] theorem writeToken_fbuf (bs : List Byte) (s : State) : (writeToken bs s).fbuf = s.fbuf := by simp only [writeToken]
@[simp] theorem writeToken_fcnt (bs : List Byte) (s : State) : (writeToken bs s).fcnt = s.fcnt := by simp only [writeToken]
@[simp] theorem writeToken_rcrc (bs : List Byte) (s : State) : (writeToken bs s).rcrc = s.rcrc := by simp only [writeToken]
@[simp] theorem writeToken_egv (bs : List Byte) (s : State) : (writeToken bs s).egv = s.egv := by simp only [writeToken]
@[simp] theorem writeToken_frames (bs : List Byte) (s : State) : (writeToken bs s).frames = s.frames := by simp only [writeToken]
@[simp] theorem writeToken_queue (bs : List Byte) (s : State) : (writeToken bs s).queue = s.queue := by simp only [writeToken]
@[simp] theorem writeToken_history (bs : List Byte) (s : State) : (writeToken bs s).history = s.history := by simp only [writeToken]

/-! ### pushToken -/

@[simp] theorem pushToken_mDir (b : Byte) (s : State) : (pushToken b s).mDir = s.mDir := rfl
@[simp] theorem pushToken_mDist (b : Byte) (s : State) : (pushToken b s).mDist = s.mDist := rfl
@[simp] theorem pushToken_mLaser (b : Byte) (s : State) : (pushToken b s).mLaser = s.mLaser := rfl
@[simp] theorem pushToken_mAx (b : Byte) (s : State) : (pushToken b s).mAx = s.mAx := rfl
@[simp] theorem pushToken_mAy (b : Byte) (s : State) : (pushToken b s).mAy = s.mAy := rfl
@[simp] theorem pushToken_rv (b : Byte) (s : State) : (pushToken b s).rv = s.rv := rfl
@[simp] theorem pushToken_rg (b : Byte) (s : State) : (pushToken b s).rg = s.rg := rfl
@[simp] theorem pushToken_rs (b : Byte) (s : State) : (pushToken b s).rs = s.rs := rfl
@[simp] theorem pushToken_rd (b : Byte) (s : State) : (pushToken b s).rd = s.rd := rfl
@[simp] theorem pushToken_rr (b : Byte) (s : State) : (pushToken b s).rr = s.rr := rfl
@[simp] theorem pushToken_rspd (b : Byte) (s : State) : (pushToken b s).rspd = s.rspd := rfl
@[simp] theorem pushToken_fault (b : Byte) (s : State) : (pushToken b s).fault = s.fault := rfl
@[simp] theorem pushToken_finfo (b : Byte) (s : State) : (pushToken b s).finfo = s.finfo := rfl
@[simp] theorem pushToken_fbuf (b : Byte) (s : State) : (pushToken b s).fbuf = s.fbuf := rfl
@[simp] theorem pushToken_fcnt (b : Byte) (s : State) : (pushToken b s).fcnt = s.fcnt := rfl
@[simp] theorem pushToken_rcrc (b : Byte) (s : State) : (pushToken b s).rcrc = s.rcrc := rfl
@[simp] theorem pushToken_egv (b : Byte) (s : State) : (pushToken b s).egv = s.egv := rfl
@[simp] theorem pushToken_frames (b : Byte) (s : State) : (pushToken b s).frames = s.frames := rfl
@[simp] theorem pushToken_queue (b : Byte) (s : State) : (pushToken b s).queue = s.queue := rfl
@[simp] theorem pushToken_history (b : Byte) (s : State) : (pushToken b s).history = s.history := rfl
@[simp] theorem pushToken_freeIdx (b : Byte) (s : State) : (pushToken b s).freeIdx = s.freeIdx := rfl

/-! ### flush -/

@[simp] theorem flush_mDir (s : State) : (flush s).mDir = s.mDir := by simp [flush]
@[simp] theorem flush_mLaser (s : State) : (flush s).mLaser = s.mLaser := by simp [flush]
@[simp] theorem flush_mAx (s : State) : (flush s).mAx = s.mAx := by simp [flush]
@[simp] theorem flush_mAy (s : State) : (flush s).mAy = s.mAy := by simp [flush]
@[simp] theorem flush_rv (s : State) : (flush s).rv = s.rv := by simp [flush]
@[simp] theorem flush_rg (s : State) : (flush s).rg = s.rg := by simp [flush]
@[simp] theorem flush_rs (s : State) : (flush s).rs = s.rs := by simp [flush]
@[simp] theorem flush_rd (s : State) : (flush s).rd = s.rd := by simp [flush]
@[simp] theorem flush_rr (s : State) : (flush s).rr = s.rr := by simp [flush]
@[simp] theorem flush_rspd (s : State) : (flush s).rspd = s.rspd := by simp [flush]
@[simp] theorem flush_fault (s : State) : (flush s).fault = s.fault := by simp [flush]
@[simp] theorem flush_finfo (s : State) : (flush s).finfo = s.finfo := by simp [flush]
@[simp] theorem flush_tok (s : State) : (flush s).tok = s.tok := by simp [flush]
@[simp] theorem flush_tokLen (s : State) : (flush s).tokLen = s.tokLen := by simp [flush]
@[simp] theorem flush_rcrc (s : State) : (flush s).rcrc = s.rcrc := by simp [flush]
@[simp] theorem flush_queue (s : State) : (flush s).queue = s.queue := by simp [flush]
@[simp] theorem flush_history (s : State) : (flush s).history = s.history := by simp [flush]
@[simp] theorem flush_freeIdx (s : State) : (flush s).freeIdx = s.freeIdx := by simp [flush]

/-! ### setLaser -/

@[simp] theorem setLaser_mDir (l : BitVec 1) (s : State) : (setLaser l s).mDir = s.mDir := by
  unfold setLaser; split <;> simp
@[simp] theorem setLaser_mDist (l : BitVec 1) (s : State) : (setLaser l s).mDist = s.mDist := by
  unfold setLaser; split <;> simp
@[simp] theorem setLaser_mAx (l : BitVec 1) (s : State) : (setLaser l s).mAx = s.mAx := by
  unfold setLaser; split <;> simp
@[simp] theorem setLaser_mAy (l : BitVec 1) (s : State) : (setLaser l s).mAy = s.mAy := by
  unfold setLaser; split <;> simp
@[simp] theorem setLaser_rv (l : BitVec 1) (s : State) : (setLaser l s).rv = s.rv := by
  unfold setLaser; split <;> simp
@[simp] theorem setLaser_rg (l : BitVec 1) (s : State) : (setLaser l s).rg = s.rg := by
  unfold setLaser; split <;> simp
@[simp] theorem setLaser_rs (l : BitVec 1) (s : State) : (setLaser l s).rs = s.rs := by
  unfold setLaser; split <;> simp
@[simp] theorem setLaser_rd (l : BitVec 1) (s : State) : (setLaser l s).rd = s.rd := by
  unfold setLaser; split <;> simp
@[simp] theorem setLaser_rr (l : BitVec 1) (s : State) : (setLaser l s).rr = s.rr := by
  unfold setLaser; split <;> simp
@[simp] theorem setLaser_rspd (l : BitVec 1) (s : State) : (setLaser l s).rspd = s.rspd := by
  unfold setLaser; split <;> simp
@[simp] theorem setLaser_fault (l : BitVec 1) (s : State) : (setLaser l s).fault = s.fault := by
  unfold setLaser; split <;> simp
@[simp] theorem setLaser_finfo (l : BitVec 1) (s : State) : (setLaser l s).finfo = s.finfo := by
  unfold setLaser; split <;> simp
@[simp] theorem setLaser_tok (l : BitVec 1) (s : State) : (setLaser l s).tok = s.tok := by
  unfold setLaser; split <;> simp
@[simp] theorem setLaser_tokLen (l : BitVec 1) (s : State) : (setLaser l s).tokLen = s.tokLen := by
  unfold setLaser; split <;> simp
@[simp] theorem setLaser_rcrc (l : BitVec 1) (s : State) : (setLaser l s).rcrc = s.rcrc := by
  unfold setLaser; split <;> simp
@[simp] theorem setLaser_queue (l : BitVec 1) (s : State) : (setLaser l s).queue = s.queue := by
  unfold setLaser; split <;> simp
@[simp] theorem setLaser_history (l : BitVec 1) (s : State) : (setLaser l s).history = s.history := by
  unfold setLaser; split <;> simp
@[simp] theorem setLaser_freeIdx (l : BitVec 1) (s : State) : (setLaser l s).freeIdx = s.freeIdx := by
  unfold setLaser; split <;> simp

/-! ### setAx -/

@[simp] theorem setAx_mDir (a : BitVec 2) (s : State) : (setAx a s).mDir = s.mDir := by
  unfold setAx; split <;> simp
@[simp] theorem setAx_mDist (a : BitVec 2) (s : State) : (setAx a s).mDist = s.mDist := by
  unfold setAx; split <;> simp
@[simp] theorem setAx_mLaser (a : BitVec 2) (s : State) : (setAx a s).mLaser = s.mLaser := by
  unfold setAx; split <;> simp
@[simp] theorem setAx_mAy (a : BitVec 2) (s : State) : (setAx a s).mAy = s.mAy := by
  unfold setAx; split <;> simp
@[simp] theorem setAx_rv (a : BitVec 2) (s : State) : (setAx a s).rv = s.rv := by
  unfold setAx; split <;> simp
@[simp] theorem setAx_rg (a : BitVec 2) (s : State) : (setAx a s).rg = s.rg := by
  unfold setAx; split <;> simp
@[simp] theorem setAx_rs (a : BitVec 2) (s : State) : (setAx a s).rs = s.rs := by
  unfold setAx; split <;> simp
@[simp] theorem setAx_rd (a : BitVec 2) (s : State) : (setAx a s).rd = s.rd := by
  unfold setAx; split <;> simp
@[simp] theorem setAx_rr (a : BitVec 2) (s : State) : (setAx a s).rr = s.rr := by
  unfold setAx; split <;> simp
@[simp] theorem setAx_rspd (a : BitVec 2) (s : State) : (setAx a s).rspd = s.rspd := by
  unfold setAx; split <;> simp
@[simp] theorem setAx_fault (a : BitVec 2) (s : State) : (setAx a s).fault = s.fault := by
  unfold setAx; split <;> simp
@[simp] theorem setAx_finfo (a : BitVec 2) (s : State) : (setAx a s).finfo = s.finfo := by
  unfold setAx; split <;> simp
@[simp] theorem setAx_tok (a : BitVec 2) (s : State) : (setAx a s).tok = s.tok := by
  unfold setAx; split <;> simp
@[simp] theorem setAx_tokLen (a : BitVec 2) (s : State) : (setAx a s).tokLen = s.tokLen := by
  unfold setAx; split <;> simp
@[simp] theorem setAx_rcrc (a : BitVec 2) (s : State) : (setAx a s).rcrc = s.rcrc := by
  unfold setAx; split <;> simp
@[simp] theorem setAx_queue (a : BitVec 2) (s : State) : (setAx a s).queue = s.queue := by
  unfold setAx; split <;> simp
@[simp] theorem setAx_history (a : BitVec 2) (s : State) : (setAx a s).history = s.history := by
  unfold setAx; split <;> simp
@[simp] theorem setAx_freeIdx (a : BitVec 2) (s : State) : (setAx a s).freeIdx = s.freeIdx := by
  unfold setAx; split <;> simp

/-! ### setAy -/

@[simp] theorem setAy_mDir (a : BitVec 2) (s : State) : (setAy a s).mDir = s.mDir := by
  unfold setAy; split <;> simp
@[simp] theorem setAy_mDist (a : BitVec 2) (s : State) : (setAy a s).mDist = s.mDist := by
  unfold setAy; split <;> simp
@[simp] theorem setAy_mLaser (a : BitVec 2) (s : State) : (setAy a s).mLaser = s.mLaser := by
  unfold setAy; split <;> simp
@[simp] theorem setAy_mAx (a : BitVec 2) (s : State) : (setAy a s).mAx = s.mAx := by
  unfold setAy; split <;> simp
@[simp] theorem setAy_rv (a : BitVec 2) (s : State) : (setAy a s).rv = s.rv := by
  unfold setAy; split <;> simp
@[simp] theorem setAy_rg (a : BitVec 2) (s : State) : (setAy a s).rg = s.rg := by
  unfold setAy; split <;> simp
@[simp] theorem setAy_rs (a : BitVec 2) (s : State) : (setAy a s).rs = s.rs := by
  unfold setAy; split <;> simp
@[simp] theorem setAy_rd (a : BitVec 2) (s : State) : (setAy a s).rd = s.rd := by
  unfold setAy; split <;> simp
@[simp] theorem setAy_rr (a : BitVec 2) (s : State) : (setAy a s).rr = s.rr := by
  unfold setAy; split <;> simp
@[simp] theorem setAy_rspd (a : BitVec 2) (s : State) : (setAy a s).rspd = s.rspd := by
  unfold setAy; split <;> simp
@[simp] theorem setAy_fault (a : BitVec 2) (s : State) : (setAy a s).fault = s.fault := by
  unfold setAy; split <;> simp
@[simp] theorem setAy_finfo (a : BitVec 2) (s : State) : (setAy a s).finfo = s.finfo := by
  unfold setAy; split <;> simp
@[simp] theorem setAy_tok (a : BitVec 2) (s : State) : (setAy a s).tok = s.tok := by
  unfold setAy; split <;> simp
@[simp] theorem setAy_tokLen (a : BitVec 2) (s : State) : (setAy a s).tokLen = s.tokLen := by
  unfold setAy; split <;> simp
@[simp] theorem setAy_rcrc (a : BitVec 2) (s : State) : (setAy a s).rcrc = s.rcrc := by
  unfold setAy; split <;> simp
@[simp] theorem setAy_queue (a : BitVec 2) (s : State) : (setAy a s).queue = s.queue := by
  unfold setAy; split <;> simp
@[simp] theorem setAy_history (a : BitVec 2) (s : State) : (setAy a s).history = s.history := by
  unfold setAy; split <;> simp
@[simp] theorem setAy_freeIdx (a : BitVec 2) (s : State) : (setAy a s).freeIdx = s.freeIdx := by
  unfold setAy; split <;> simp

/-! ### latchAxis -/

@[simp] theorem latchAxis_mDir (d : BitVec 3) (s : State) : (latchAxis d s).mDir = s.mDir := by
  unfold latchAxis; repeat' split
  all_goals rfl
@[simp] theorem latchAxis_mDist (d : BitVec 3) (s : State) : (latchAxis d s).mDist = s.mDist := by
  unfold latchAxis; repeat' split
  all_goals rfl
@[simp] theorem latchAxis_mLaser (d : BitVec 3) (s : State) : (latchAxis d s).mLaser = s.mLaser := by
  unfold latchAxis; repeat' split
  all_goals rfl
@[simp] theorem latchAxis_rv (d : BitVec 3) (s : State) : (latchAxis d s).rv = s.rv := by
  unfold latchAxis; repeat' split
  all_goals rfl
@[simp] theorem latchAxis_rg (d : BitVec 3) (s : State) : (latchAxis d s).rg = s.rg := by
  unfold latchAxis; repeat' split
  all_goals rfl
@[simp] theorem latchAxis_rs (d : BitVec 3) (s : State) : (latchAxis d s).rs = s.rs := by
  unfold latchAxis; repeat' split
  all_goals rfl
@[simp] theorem latchAxis_rd (d : BitVec 3) (s : State) : (latchAxis d s).rd = s.rd := by
  unfold latchAxis; repeat' split
  all_goals rfl
@[simp] theorem latchAxis_rr (d : BitVec 3) (s : State) : (latchAxis d s).rr = s.rr := by
  unfold latchAxis; repeat' split
  all_goals rfl
@[simp] theorem latchAxis_rspd (d : BitVec 3) (s : State) : (latchAxis d s).rspd = s.rspd := by
  unfold latchAxis; repeat' split
  all_goals rfl
@[simp] theorem latchAxis_fault (d : BitVec 3) (s : State) : (latchAxis d s).fault = s.fault := by
  unfold latchAxis; repeat' split
  all_goals rfl
@[simp] theorem latchAxis_finfo (d : BitVec 3) (s : State) : (latchAxis d s).finfo = s.finfo := by
  unfold latchAxis; repeat' split
  all_goals rfl
@[simp] theorem latchAxis_tok (d : BitVec 3) (s : State) : (latchAxis d s).tok = s.tok := by
  unfold latchAxis; repeat' split
  all_goals rfl
@[simp] theorem latchAxis_tokLen (d : BitVec 3) (s : State) : (latchAxis d s).tokLen = s.tokLen := by
  unfold latchAxis; repeat' split
  all_goals rfl
@[simp] theorem latchAxis_fbuf (d : BitVec 3) (s : State) : (latchAxis d s).fbuf = s.fbuf := by
  unfold latchAxis; repeat' split
  all_goals rfl
@[simp] theorem latchAxis_fcnt (d : BitVec 3) (s : State) : (latchAxis d s).fcnt = s.fcnt := by
  unfold latchAxis; repeat' split
  all_goals rfl
@[simp] theorem latchAxis_rcrc (d : BitVec 3) (s : State) : (latchAxis d s).rcrc = s.rcrc := by
  unfold latchAxis; repeat' split
  all_goals rfl
@[simp] theorem latchAxis_egv (d : BitVec 3) (s : State) : (latchAxis d s).egv = s.egv := by
  unfold latchAxis; repeat' split
  all_goals rfl
@[simp] theorem latchAxis_frames (d : BitVec 3) (s : State) : (latchAxis d s).frames = s.frames := by
  unfold latchAxis; repeat' split
  all_goals rfl
@[simp] theorem latchAxis_queue (d : BitVec 3) (s : State) : (latchAxis d s).queue = s.queue := by
  unfold latchAxis; repeat' split
  all_goals rfl
@[simp] theorem latchAxis_history (d : BitVec 3) (s : State) : (latchAxis d s).history = s.history := by
  unfold latchAxis; repeat' split
  all_goals rfl
@[simp] theorem latchAxis_freeIdx (d : BitVec 3) (s : State) : (latchAxis d s).freeIdx = s.freeIdx := by
  unfold latchAxis; repeat' split
  all_goals rfl

/-! ### startRun -/

@[simp] theorem startRun_rv (d : BitVec 3) (n : Int) (l : BitVec 1) (x y : BitVec 2) (s : State) : (startRun d n l x y s).rv = s.rv := by simp [startRun]
@[simp] theorem startRun_rg (d : BitVec 3) (n : Int) (l : BitVec 1) (x y : BitVec 2) (s : State) : (startRun d n l x y s).rg = s.rg := by simp [startRun]
@[simp] theorem startRun_rs (d : BitVec 3) (n : Int) (l : BitVec 1) (x y : BitVec 2) (s : State) : (startRun d n l x y s).rs = s.rs := by simp [startRun]
@[simp] theorem startRun_rd (d : BitVec 3) (n : Int) (l : BitVec 1) (x y : BitVec 2) (s : State) : (startRun d n l x y s).rd = s.rd := by simp [startRun]
@[simp] theorem startRun_rr (d : BitVec 3) (n : Int) (l : BitVec 1) (x y : BitVec 2) (s : State) : (startRun d n l x y s).rr = s.rr := by simp [startRun]
@[simp] theorem startRun_rspd (d : BitVec 3) (n : Int) (l : BitVec 1) (x y : BitVec 2) (s : State) : (startRun d n l x y s).rspd = s.rspd := by simp [startRun]
@[simp] theorem startRun_fault (d : BitVec 3) (n : Int) (l : BitVec 1) (x y : BitVec 2) (s : State) : (startRun d n l x y s).fault = s.fault := by simp [startRun]
@[simp] theorem startRun_finfo (d : BitVec 3) (n : Int) (l : BitVec 1) (x y : BitVec 2) (s : State) : (startRun d n l x y s).finfo = s.finfo := by simp [startRun]
@[simp] theorem startRun_tok (d : BitVec 3) (n : Int) (l : BitVec 1) (x y : BitVec 2) (s : State) : (startRun d n l x y s).tok = s.tok := by simp [startRun]
@[simp] theorem startRun_tokLen (d : BitVec 3) (n : Int) (l : BitVec 1) (x y : BitVec 2) (s : State) : (startRun d n l x y s).tokLen = s.tokLen := by simp [startRun]
@[simp] theorem startRun_rcrc (d : BitVec 3) (n : Int) (l : BitVec 1) (x y : BitVec 2) (s : State) : (startRun d n l x y s).rcrc = s.rcrc := by simp [startRun]
@[simp] theorem startRun_queue (d : BitVec 3) (n : Int) (l : BitVec 1) (x y : BitVec 2) (s : State) : (startRun d n l x y s).queue = s.queue := by simp [startRun]
@[simp] theorem startRun_history (d : BitVec 3) (n : Int) (l : BitVec 1) (x y : BitVec 2) (s : State) : (startRun d n l x y s).history = s.history := by simp [startRun]
@[simp] theorem startRun_freeIdx (d : BitVec 3) (n : Int) (l : BitVec 1) (x y : BitVec 2) (s : State) : (startRun d n l x y s).freeIdx = s.freeIdx := by simp [startRun]

/-! ### writeTokenFields -/

@[simp] theorem writeTokenFields_mDir (t : TokenFields) (s : State) : (writeTokenFields t s).mDir = s.mDir := rfl
@[simp] theorem writeTokenFields_mDist (t : TokenFields) (s : State) : (writeTokenFields t s).mDist = s.mDist := rfl
@[simp] theorem writeTokenFields_mLaser (t : TokenFields) (s : State) : (writeTokenFields t s).mLaser = s.mLaser := rfl
@[simp] theorem writeTokenFields_mAx (t : TokenFields) (s : State) : (writeTokenFields t s).mAx = s.mAx := rfl
@[simp] theorem writeTokenFields_mAy (t : TokenFields) (s : State) : (writeTokenFields t s).mAy = s.mAy := rfl
@[simp] theorem writeTokenFields_rspd (t : TokenFields) (s : State) : (writeTokenFields t s).rspd = s.rspd := rfl
@[simp] theorem writeTokenFields_fault (t : TokenFields) (s : State) : (writeTokenFields t s).fault = s.fault := rfl
@[simp] theorem writeTokenFields_finfo (t : TokenFields) (s : State) : (writeTokenFields t s).finfo = s.finfo := rfl
@[simp] theorem writeTokenFields_tok (t : TokenFields) (s : State) : (writeTokenFields t s).tok = s.tok := rfl
@[simp] theorem writeTokenFields_tokLen (t : TokenFields) (s : State) : (writeTokenFields t s).tokLen = s.tokLen := rfl
@[simp] theorem writeTokenFields_fbuf (t : TokenFields) (s : State) : (writeTokenFields t s).fbuf = s.fbuf := rfl
@[simp] theorem writeTokenFields_fcnt (t : TokenFields) (s : State) : (writeTokenFields t s).fcnt = s.fcnt := rfl
@[simp] theorem writeTokenFields_rcrc (t : TokenFields) (s : State) : (writeTokenFields t s).rcrc = s.rcrc := rfl
@[simp] theorem writeTokenFields_egv (t : TokenFields) (s : State) : (writeTokenFields t s).egv = s.egv := rfl
@[simp] theorem writeTokenFields_frames (t : TokenFields) (s : State) : (writeTokenFields t s).frames = s.frames := rfl
@[simp] theorem writeTokenFields_queue (t : TokenFields) (s : State) : (writeTokenFields t s).queue = s.queue := rfl
@[simp] theorem writeTokenFields_history (t : TokenFields) (s : State) : (writeTokenFields t s).history = s.history := rfl
@[simp] theorem writeTokenFields_freeIdx (t : TokenFields) (s : State) : (writeTokenFields t s).freeIdx = s.freeIdx := rfl

/-! ### writeSpeedToken -/

@[simp] theorem writeSpeedToken_mDir (t : SpeedToken) (r : BitVec 10) (s : State) : (writeSpeedToken t r s).mDir = s.mDir := by simp [writeSpeedToken]
@[simp] theorem writeSpeedToken_mDist (t : SpeedToken) (r : BitVec 10) (s : State) : (writeSpeedToken t r s).mDist = s.mDist := by simp [writeSpeedToken]
@[simp] theorem writeSpeedToken_mLaser (t : SpeedToken) (r : BitVec 10) (s : State) : (writeSpeedToken t r s).mLaser = s.mLaser := by simp [writeSpeedToken]
@[simp] theorem writeSpeedToken_mAx (t : SpeedToken) (r : BitVec 10) (s : State) : (writeSpeedToken t r s).mAx = s.mAx := by simp [writeSpeedToken]
@[simp] theorem writeSpeedToken_mAy (t : SpeedToken) (r : BitVec 10) (s : State) : (writeSpeedToken t r s).mAy = s.mAy := by simp [writeSpeedToken]
@[simp] theorem writeSpeedToken_rspd (t : SpeedToken) (r : BitVec 10) (s : State) : (writeSpeedToken t r s).rspd = s.rspd := by simp [writeSpeedToken]
@[simp] theorem writeSpeedToken_fault (t : SpeedToken) (r : BitVec 10) (s : State) : (writeSpeedToken t r s).fault = s.fault := by simp [writeSpeedToken]
@[simp] theorem writeSpeedToken_finfo (t : SpeedToken) (r : BitVec 10) (s : State) : (writeSpeedToken t r s).finfo = s.finfo := by simp [writeSpeedToken]
@[simp] theorem writeSpeedToken_fbuf (t : SpeedToken) (r : BitVec 10) (s : State) : (writeSpeedToken t r s).fbuf = s.fbuf := by simp [writeSpeedToken]
@[simp] theorem writeSpeedToken_fcnt (t : SpeedToken) (r : BitVec 10) (s : State) : (writeSpeedToken t r s).fcnt = s.fcnt := by simp [writeSpeedToken]
@[simp] theorem writeSpeedToken_rcrc (t : SpeedToken) (r : BitVec 10) (s : State) : (writeSpeedToken t r s).rcrc = s.rcrc := by simp [writeSpeedToken]
@[simp] theorem writeSpeedToken_egv (t : SpeedToken) (r : BitVec 10) (s : State) : (writeSpeedToken t r s).egv = s.egv := by simp [writeSpeedToken]
@[simp] theorem writeSpeedToken_frames (t : SpeedToken) (r : BitVec 10) (s : State) : (writeSpeedToken t r s).frames = s.frames := by simp [writeSpeedToken]
@[simp] theorem writeSpeedToken_queue (t : SpeedToken) (r : BitVec 10) (s : State) : (writeSpeedToken t r s).queue = s.queue := by simp [writeSpeedToken]
@[simp] theorem writeSpeedToken_history (t : SpeedToken) (r : BitVec 10) (s : State) : (writeSpeedToken t r s).history = s.history := by simp [writeSpeedToken]

/-! ### The fields the updates write -/

@[simp] theorem appendByte_egv (b : Byte) (s : State) : (appendByte b s).egv = s.egv ++ [b] := rfl

@[simp] theorem appendByte_fcnt (b : Byte) (s : State) : (appendByte b s).fcnt = s.fcnt + 1 := rfl

@[simp] theorem appendByte_fbuf (b : Byte) (s : State) :
    (appendByte b s).fbuf = s.fbuf.setIfInBounds s.fcnt.toNat b := rfl

@[simp] theorem emitFrame_frames (s : State) : (emitFrame s).frames = s.frames ++ [frameOf s.fbuf] := rfl

@[simp] theorem emitFrame_fcnt (s : State) : (emitFrame s).fcnt = 0 := rfl

@[simp] theorem emit_egv (b : Byte) (s : State) : (emit b s).egv = s.egv ++ [b] := by
  unfold emit; simp only; split <;> rfl

@[simp] theorem emitList_egv (bs : List Byte) (s : State) : (emitList bs s).egv = s.egv ++ bs := by
  induction bs generalizing s with
  | nil => simp [emitList]
  | cons b bs ih => simpa [emitList] using ih (emit b s)

@[simp] theorem closeFrame_fcnt (s : State) : (closeFrame s).fcnt = 0 := by
  unfold closeFrame; split
  · assumption
  · simp

@[simp] theorem writeToken_tokLen (bs : List Byte) (s : State) : (writeToken bs s).tokLen = BitVec.ofNat 6 bs.length := by
  simp only [writeToken]

@[simp] theorem pushToken_tokLen (b : Byte) (s : State) : (pushToken b s).tokLen = s.tokLen + 1 := rfl

@[simp] theorem flush_mDist (s : State) : (flush s).mDist = 0 := rfl

@[simp] theorem flush_egv (s : State) : (flush s).egv = s.egv ++ s.flushBytes := by simp [flush]

@[simp] theorem setLaser_mLaser (l : BitVec 1) (s : State) : (setLaser l s).mLaser = l := by
  unfold setLaser; split <;> simp_all

@[simp] theorem setAx_mAx (a : BitVec 2) (s : State) : (setAx a s).mAx = a := by
  unfold setAx; split <;> simp_all

@[simp] theorem setAy_mAy (a : BitVec 2) (s : State) : (setAy a s).mAy = a := by
  unfold setAy; split <;> simp_all

@[simp] theorem startRun_mDir (d : BitVec 3) (n : Int) (l : BitVec 1) (x y : BitVec 2) (s : State) :
    (startRun d n l x y s).mDir = d := by simp [startRun]

@[simp] theorem startRun_mDist (d : BitVec 3) (n : Int) (l : BitVec 1) (x y : BitVec 2) (s : State) :
    (startRun d n l x y s).mDist = BitVec.ofInt 31 n := by simp [startRun]

@[simp] theorem startRun_mLaser (d : BitVec 3) (n : Int) (l : BitVec 1) (x y : BitVec 2) (s : State) :
    (startRun d n l x y s).mLaser = l := by simp [startRun]

@[simp] theorem startRun_mAx (d : BitVec 3) (n : Int) (l : BitVec 1) (x y : BitVec 2) (s : State) :
    (startRun d n l x y s).mAx = if d = 1 then 1 else if d = 2 then 2 else x := by
  unfold startRun latchAxis; repeat' split
  all_goals simp_all

@[simp] theorem startRun_mAy (d : BitVec 3) (n : Int) (l : BitVec 1) (x y : BitVec 2) (s : State) :
    (startRun d n l x y s).mAy = if d = 3 then 1 else if d = 4 then 2 else y := by
  unfold startRun latchAxis; repeat' split
  all_goals simp_all

/-! ### Leaving the faulted condition, and the command port -/

@[simp] theorem jobReset_mDir (s : State) : (jobReset s).mDir = 0 := rfl
@[simp] theorem jobReset_mDist (s : State) : (jobReset s).mDist = 0 := rfl
@[simp] theorem jobReset_mLaser (s : State) : (jobReset s).mLaser = 0 := rfl
@[simp] theorem jobReset_mAx (s : State) : (jobReset s).mAx = 0 := rfl
@[simp] theorem jobReset_mAy (s : State) : (jobReset s).mAy = 0 := rfl
@[simp] theorem jobReset_rv (s : State) : (jobReset s).rv = 0 := rfl
@[simp] theorem jobReset_rg (s : State) : (jobReset s).rg = 0 := rfl
@[simp] theorem jobReset_rs (s : State) : (jobReset s).rs = 0 := rfl
@[simp] theorem jobReset_rd (s : State) : (jobReset s).rd = 0 := rfl
@[simp] theorem jobReset_rr (s : State) : (jobReset s).rr = 0 := rfl
@[simp] theorem jobReset_rspd (s : State) : (jobReset s).rspd = 0 := rfl
@[simp] theorem jobReset_fault (s : State) : (jobReset s).fault = 0 := rfl
@[simp] theorem jobReset_finfo (s : State) : (jobReset s).finfo = 0 := rfl
@[simp] theorem jobReset_tok (s : State) : (jobReset s).tok = s.tok := rfl
@[simp] theorem jobReset_tokLen (s : State) : (jobReset s).tokLen = 0 := rfl
@[simp] theorem jobReset_fbuf (s : State) : (jobReset s).fbuf = s.fbuf := rfl
@[simp] theorem jobReset_fcnt (s : State) : (jobReset s).fcnt = 0 := rfl
@[simp] theorem jobReset_rcrc (s : State) : (jobReset s).rcrc = 0 := rfl
@[simp] theorem jobReset_egv (s : State) : (jobReset s).egv = s.egv := rfl
@[simp] theorem jobReset_frames (s : State) : (jobReset s).frames = s.frames := rfl
@[simp] theorem jobReset_queue (s : State) : (jobReset s).queue = s.queue := rfl
@[simp] theorem jobReset_history (s : State) : (jobReset s).history = s.history := rfl
@[simp] theorem jobReset_freeIdx (s : State) : (jobReset s).freeIdx = s.freeIdx := rfl
@[simp] theorem consume_mDir (s : State) : s.consume.mDir = s.mDir := rfl
@[simp] theorem consume_mDist (s : State) : s.consume.mDist = s.mDist := rfl
@[simp] theorem consume_mLaser (s : State) : s.consume.mLaser = s.mLaser := rfl
@[simp] theorem consume_mAx (s : State) : s.consume.mAx = s.mAx := rfl
@[simp] theorem consume_mAy (s : State) : s.consume.mAy = s.mAy := rfl
@[simp] theorem consume_rv (s : State) : s.consume.rv = s.rv := rfl
@[simp] theorem consume_rg (s : State) : s.consume.rg = s.rg := rfl
@[simp] theorem consume_rs (s : State) : s.consume.rs = s.rs := rfl
@[simp] theorem consume_rd (s : State) : s.consume.rd = s.rd := rfl
@[simp] theorem consume_rr (s : State) : s.consume.rr = s.rr := rfl
@[simp] theorem consume_rspd (s : State) : s.consume.rspd = s.rspd := rfl
@[simp] theorem consume_fault (s : State) : s.consume.fault = s.fault := rfl
@[simp] theorem consume_finfo (s : State) : s.consume.finfo = s.finfo := rfl
@[simp] theorem consume_tok (s : State) : s.consume.tok = s.tok := rfl
@[simp] theorem consume_tokLen (s : State) : s.consume.tokLen = s.tokLen := rfl
@[simp] theorem consume_fbuf (s : State) : s.consume.fbuf = s.fbuf := rfl
@[simp] theorem consume_fcnt (s : State) : s.consume.fcnt = s.fcnt := rfl
@[simp] theorem consume_rcrc (s : State) : s.consume.rcrc = s.rcrc := rfl
@[simp] theorem consume_egv (s : State) : s.consume.egv = s.egv := rfl
@[simp] theorem consume_frames (s : State) : s.consume.frames = s.frames := rfl
@[simp] theorem consume_freeIdx (s : State) : s.consume.freeIdx = s.freeIdx := rfl

end Sys2Proof.Machine
end

