-- ==== Sys2Proof/Laws/Ops.lean ====
section
/-! SUPPORT. For each shared operation, what it can do, said once. -/

namespace Sys2Proof.Machine

/-! ### Commands and faults -/

@[simp] theorem faulted_eq (s : State) : s.faulted = decide (s.fault ≠ 0) := rfl

/-- A command runs its body when nothing has faulted (60_exceptions.md R256). -/
theorem runCommand_of_ok {body : State → Flow Unit} {s : State} (h : s.fault = 0) :
    runCommand body s = .next (body s).state := by simp [runCommand, h]

/-- A command is refused when something has faulted (60_exceptions.md R256). -/
theorem runCommand_of_faulted {body : State → Flow Unit} {s : State} (h : s.fault ≠ 0) :
    runCommand body s = .next s := by simp_all [runCommand]

/-- All a command can answer. -/
theorem runCommand_cases {body : State → Flow Unit} {s t : State} (h : runCommand body s = .next t) :
    (s.fault ≠ 0 ∧ t = s) ∨ (s.fault = 0 ∧ t = (body s).state) := by
  by_cases hf : s.fault = 0
  · rw [runCommand_of_ok hf] at h; cases h; exact .inr ⟨hf, rfl⟩
  · rw [runCommand_of_faulted hf] at h; cases h; exact .inl ⟨hf, rfl⟩

@[simp] theorem Flow.state_go {α : Type} (a : α) (s : State) : (Flow.go a s).state = s := rfl

@[simp] theorem Flow.state_ended {α : Type} (s : State) : (Flow.ended s : Flow α).state = s := rfl

@[simp] theorem Flow.bind_go {α β : Type} (a : α) (s : State) (f : α → State → Flow β) :
    (Flow.go a s).bind f = f a s := rfl

@[simp] theorem Flow.bind_ended {α β : Type} (s : State) (f : α → State → Flow β) :
    (Flow.ended s).bind f = .ended s := rfl

/-- A fault is recorded when none is held, and the command ends. -/
theorem raise_of_ok {α : Type} (c : Cause) (info : Int) {s : State} (h : s.fault = 0) :
    (raise c info s : Flow α) = .ended { s with fault := c.code, finfo := wrap32 info } := by
  simp [raise, h]

theorem Cause.code_ne_zero (c : Cause) : c.code ≠ 0 := by cases c <;> decide

/-! ### The command port -/

theorem fetch_cons {s : State} {w : CmdWord} {ws : List CmdWord} (h : s.queue = w :: ws) :
    s.fetch = some w := by simp [State.fetch, h]

theorem consume_cons {s : State} {w : CmdWord} {ws : List CmdWord} (h : s.queue = w :: ws) :
    s.consume = { s with queue := ws, history := s.history ++ [w] } := by
  simp [State.consume, h]

/-! ### The frame -/

theorem frameOf_toList (p : Payload) :
    (frameOf p).toList = [0xA6, 0x00] ++ p.toList ++ [0xA6, crc8 (0x00 :: p.toList)] := by
  simp only [frameOf, Vector.toList_append]
  rfl

/-- The payload a frame carries is the payload it was built from. -/
theorem payloadOf_frameOf (p : Payload) : payloadOf (frameOf p) = p.toList := by
  have hl : p.toList.length = 30 := by simp
  rw [payloadOf, frameOf_toList, List.append_assoc, List.drop_left' (by rfl),
    List.take_left' hl]

/-! ### The streams -/

/-- `Emit` while the frame does not fill. -/
theorem emit_of_lt {b : Byte} {s : State} (h : s.fcnt.toNat < 29) : emit b s = appendByte b s := by
  have : s.fcnt + 1 ≠ 30#5 := by bv_omega
  simp_all [emit]

/-- `Emit` of the byte that fills the frame. -/
theorem emit_of_full {b : Byte} {s : State} (h : s.fcnt = 29) :
    emit b s = emitFrame (appendByte b s) := by simp [emit, h]

@[simp] theorem emitList_nil (s : State) : emitList [] s = s := rfl

@[simp] theorem emitList_cons (b : Byte) (bs : List Byte) (s : State) :
    emitList (b :: bs) s = emitList bs (emit b s) := rfl

theorem emitList_append (as bs : List Byte) (s : State) :
    emitList (as ++ bs) s = emitList bs (emitList as s) := by simp [emitList]

/-- The count of payload bytes stays legal. -/
theorem emit_fcnt_le {b : Byte} {s : State} (h : s.fcnt.toNat ≤ 29) : (emit b s).fcnt.toNat ≤ 29 := by
  by_cases hf : s.fcnt = 29
  · simp [emit_of_full hf]
  · have : s.fcnt.toNat < 29 := by bv_omega
    rw [emit_of_lt this, appendByte_fcnt]; bv_omega

theorem emitList_fcnt_le {bs : List Byte} {s : State} (h : s.fcnt.toNat ≤ 29) :
    (emitList bs s).fcnt.toNat ≤ 29 := by
  induction bs generalizing s with
  | nil => exact h
  | cons b bs ih => exact ih (emit_fcnt_le h)

/-- `Emit` only appends to `F`. -/
theorem emit_frames_prefix (b : Byte) (s : State) : s.frames <+: (emit b s).frames := by
  unfold emit; simp only; split <;> simp [appendByte]

theorem emitList_frames_prefix (bs : List Byte) (s : State) :
    s.frames <+: (emitList bs s).frames := by
  induction bs generalizing s with
  | nil => exact List.prefix_refl _
  | cons b bs ih => exact (emit_frames_prefix b s).trans (ih _)

theorem set_take_succ {n : Nat} (v : Vector Byte n) {i : Nat} (b : Byte) (h : i < n) :
    (v.setIfInBounds i b).toList.take (i + 1) = v.toList.take i ++ [b] := by
  have hl : v.toList.length = n := by simp
  rw [Vector.toList_setIfInBounds, List.take_add_one, List.take_set_of_le (Nat.le_refl i)]
  simp [h]

/-- "every byte that enters `S` also enters the framer" (20_memory.md R55), for one byte. -/
theorem emit_framed {b : Byte} {s : State} (h : s.fcnt.toNat ≤ 29) :
    (emit b s).framed = s.framed ++ [b] := by
  by_cases hf : s.fcnt = 29
  · have h30 : (s.fbuf.setIfInBounds 29 b).toList = s.fbuf.toList.take 29 ++ [b] := by
      rw [← set_take_succ s.fbuf b (by omega), List.take_of_length_le (by simp)]
    simp [emit_of_full hf, State.framed, emitFrame, appendByte, hf, payloadOf_frameOf, h30]
  · have hlt : s.fcnt.toNat < 29 := by bv_omega
    have hn : (s.fcnt + 1).toNat = s.fcnt.toNat + 1 := by bv_omega
    simp only [emit_of_lt hlt, State.framed, appendByte, hn]
    rw [set_take_succ s.fbuf b (by omega), List.append_assoc]

theorem emitList_framed {bs : List Byte} {s : State} (h : s.fcnt.toNat ≤ 29) :
    (emitList bs s).framed = s.framed ++ bs := by
  induction bs generalizing s with
  | nil => simp
  | cons b bs ih => simp [ih (emit_fcnt_le h), emit_framed h]

/-! ### The motion encoder -/

@[simp] theorem flush_of_idle {s : State} (h : s.mDist = 0) : flush s = s := by
  unfold flush State.flushBytes; simp only [h, if_true, emitList_nil]; cases s; simp_all

/-- All `Move` can do (41_motion_encoder.md R152): a fault and nothing else, more ticks in the
pending run, or a new run. -/
theorem move_cases (dir : BitVec 3) (dist : Int) (laser : BitVec 1) (ax ay : BitVec 2) (s : State) :
    (move dir dist laser ax ay s = raise .invalidDistance dist s ∧
      (dist < 0 ∨ (s.mDist.toNat : Int) + dist > 2147483647)) ∨
    (move dir dist laser ax ay s = .go () { s with mDist := BitVec.ofInt 31 (s.mDist.toNat + dist) } ∧
      0 ≤ dist ∧ (s.mDist.toNat : Int) + dist ≤ 2147483647 ∧ dir = s.mDir ∧ laser = s.mLaser ∧
      keepOr ax s.mAx = s.mAx ∧ keepOr ay s.mAy = s.mAy) ∨
    (move dir dist laser ax ay s =
        .go () (startRun dir dist laser (keepOr ax s.mAx) (keepOr ay s.mAy) s) ∧
      0 ≤ dist ∧ ¬(dir = s.mDir ∧ laser = s.mLaser ∧ keepOr ax s.mAx = s.mAx ∧
        keepOr ay s.mAy = s.mAy)) := by
  unfold move
  split
  case isTrue h => exact .inl ⟨rfl, .inl h⟩
  case isFalse h =>
    simp only
    split
    case isTrue hs =>
      split
      case isTrue ho => exact .inl ⟨rfl, .inr ho⟩
      case isFalse ho => exact .inr (.inl ⟨rfl, by omega, by omega, hs⟩)
    case isFalse hs => exact .inr (.inr ⟨rfl, by omega, hs⟩)

end Sys2Proof.Machine
end

