-- ==== Sys2Proof/Laws/PerInstr.lean ====
section
/-! SUPPORT. A statement for all instructions, one lemma per constructor. -/

namespace Sys2Proof.Laws

/-- Each row of spec/opcode_table.json is either something the command port decodes or an item of the
output with bytes and a class of its own (30_encoding.md, "two kinds of encoding"). -/
def CommandOrOutput.Statement (i : Instr) : Prop :=
  (outputBytes i).isSome = !i.isCommand ∧ (outClass i).isSome = !i.isCommand

theorem CommandOrOutput.nop : CommandOrOutput.Statement .nop := ⟨rfl, rfl⟩

theorem CommandOrOutput.jobrst : CommandOrOutput.Statement .jobrst := ⟨rfl, rfl⟩

theorem CommandOrOutput.spdenc : ∀ board fgv fgear rstep feed ratio, CommandOrOutput.Statement (.spdenc board fgv fgear rstep feed ratio) :=
  fun _ _ _ _ _ _ => ⟨rfl, rfl⟩

theorem CommandOrOutput.spddec : CommandOrOutput.Statement .spddec := ⟨rfl, rfl⟩

theorem CommandOrOutput.v2s : ∀ value b m, CommandOrOutput.Statement (.v2s value b m) :=
  fun _ _ _ => ⟨rfl, rfl⟩

theorem CommandOrOutput.s2v : ∀ feed b m, CommandOrOutput.Statement (.s2v feed b m) :=
  fun _ _ _ => ⟨rfl, rfl⟩

theorem CommandOrOutput.gearsel : ∀ raster feed, CommandOrOutput.Statement (.gearsel raster feed) :=
  fun _ _ => ⟨rfl, rfl⟩

theorem CommandOrOutput.tokclr : CommandOrOutput.Statement .tokclr := ⟨rfl, rfl⟩

theorem CommandOrOutput.tokput : ∀ byte, CommandOrOutput.Statement (.tokput byte) :=
  fun _ => ⟨rfl, rfl⟩

theorem CommandOrOutput.tokemit : CommandOrOutput.Statement .tokemit := ⟨rfl, rfl⟩

theorem CommandOrOutput.move : ∀ dir laser ax ay distance, CommandOrOutput.Statement (.move dir laser ax ay distance) :=
  fun _ _ _ _ _ => ⟨rfl, rfl⟩

theorem CommandOrOutput.flush : CommandOrOutput.Statement .flush := ⟨rfl, rfl⟩

theorem CommandOrOutput.emit : ∀ byte, CommandOrOutput.Statement (.emit byte) :=
  fun _ => ⟨rfl, rfl⟩

theorem CommandOrOutput.dist : ∀ n, CommandOrOutput.Statement (.dist n) :=
  fun _ => ⟨rfl, rfl⟩

theorem CommandOrOutput.line : ∀ laser dx dy, CommandOrOutput.Statement (.line laser dx dy) :=
  fun _ _ _ => ⟨rfl, rfl⟩

theorem CommandOrOutput.fclose : CommandOrOutput.Statement .fclose := ⟨rfl, rfl⟩

theorem CommandOrOutput.crcclr : CommandOrOutput.Statement .crcclr := ⟨rfl, rfl⟩

theorem CommandOrOutput.crcupd : ∀ byte, CommandOrOutput.Statement (.crcupd byte) :=
  fun _ => ⟨rfl, rfl⟩

theorem CommandOrOutput.reserved : ∀ op, CommandOrOutput.Statement (.reserved op) :=
  fun _ => ⟨rfl, rfl⟩

theorem CommandOrOutput.ctrlI : CommandOrOutput.Statement .ctrlI := ⟨rfl, rfl⟩

theorem CommandOrOutput.ctrlS : CommandOrOutput.Statement .ctrlS := ⟨rfl, rfl⟩

theorem CommandOrOutput.ctrl1 : CommandOrOutput.Statement .ctrl1 := ⟨rfl, rfl⟩

theorem CommandOrOutput.ctrlE : CommandOrOutput.Statement .ctrlE := ⟨rfl, rfl⟩

theorem CommandOrOutput.ctrlN : CommandOrOutput.Statement .ctrlN := ⟨rfl, rfl⟩

theorem CommandOrOutput.ctrlR : CommandOrOutput.Statement .ctrlR := ⟨rfl, rfl⟩

theorem CommandOrOutput.ctrlL : CommandOrOutput.Statement .ctrlL := ⟨rfl, rfl⟩

theorem CommandOrOutput.ctrlB : CommandOrOutput.Statement .ctrlB := ⟨rfl, rfl⟩

theorem CommandOrOutput.ctrlF : CommandOrOutput.Statement .ctrlF := ⟨rfl, rfl⟩

theorem CommandOrOutput.ctrlAt : CommandOrOutput.Statement .ctrlAt := ⟨rfl, rfl⟩

theorem CommandOrOutput.dirRight : CommandOrOutput.Statement .dirRight := ⟨rfl, rfl⟩

theorem CommandOrOutput.dirLeft : CommandOrOutput.Statement .dirLeft := ⟨rfl, rfl⟩

theorem CommandOrOutput.dirUp : CommandOrOutput.Statement .dirUp := ⟨rfl, rfl⟩

theorem CommandOrOutput.dirDown : CommandOrOutput.Statement .dirDown := ⟨rfl, rfl⟩

theorem CommandOrOutput.dirDiag : CommandOrOutput.Statement .dirDiag := ⟨rfl, rfl⟩

theorem CommandOrOutput.laserOn : CommandOrOutput.Statement .laserOn := ⟨rfl, rfl⟩

theorem CommandOrOutput.laserOff : CommandOrOutput.Statement .laserOff := ⟨rfl, rfl⟩

theorem CommandOrOutput.dist255 : CommandOrOutput.Statement .dist255 := ⟨rfl, rfl⟩

theorem CommandOrOutput.dist1to25 : ∀ r, CommandOrOutput.Statement (.dist1to25 r) :=
  fun _ => ⟨rfl, rfl⟩

theorem CommandOrOutput.dist26to51 : ∀ r, CommandOrOutput.Statement (.dist26to51 r) :=
  fun _ => ⟨rfl, rfl⟩

theorem CommandOrOutput.dist52to254 : ∀ r, CommandOrOutput.Statement (.dist52to254 r) :=
  fun _ => ⟨rfl, rfl⟩

theorem CommandOrOutput.dist0 : CommandOrOutput.Statement .dist0 := ⟨rfl, rfl⟩

theorem CommandOrOutput.run : ∀ d n, CommandOrOutput.Statement (.run d n) :=
  fun _ _ => ⟨rfl, rfl⟩

theorem CommandOrOutput.tokenVector : ∀ v gear, CommandOrOutput.Statement (.tokenVector v gear) :=
  fun _ _ => ⟨rfl, rfl⟩

theorem CommandOrOutput.tokenDiagonal : ∀ v gear steps d, CommandOrOutput.Statement (.tokenDiagonal v gear steps d) :=
  fun _ _ _ _ => ⟨rfl, rfl⟩

theorem CommandOrOutput.tokenRaster : ∀ v gear rstep, CommandOrOutput.Statement (.tokenRaster v gear rstep) :=
  fun _ _ _ => ⟨rfl, rfl⟩

theorem CommandOrOutput.valueField : ∀ v, CommandOrOutput.Statement (.valueField v) :=
  fun _ => ⟨rfl, rfl⟩

theorem CommandOrOutput.frame : ∀ payload, CommandOrOutput.Statement (.frame payload) :=
  fun _ => ⟨rfl, rfl⟩

end Sys2Proof.Laws
end

