-- ==== Sys2Proof/Machine/Assembly.lean ====
section
/-! DEFINITION. The spec's assembly notation and pseudo-instructions (spec/30_encoding.md R98, R99), and
the host's rendering of a segment and of the job file (43_job_sequences.md R195 to R197, R207).
Nothing here is part of the block: these are lists of commands and functions of its outputs. -/

namespace Sys2Proof.Machine

/-- An operand value of a line (R98): an integer, a name, or a quoted character's ASCII code. -/
inductive AsmValue where
  | num (v : Int)
  | name (s : String)
  deriving DecidableEq, Repr

/-- One line of assembly (R98), already split into its parts; an omitted operand is 0. -/
structure AsmLine where
  mnemonic : String
  operands : List (String × AsmValue)
  deriving DecidableEq, Repr

/-- The value an operand name stands for (R98, with the values of R74). -/
def asmName (operand : String) (s : String) : Option Int :=
  match operand, s with
  | "dir", "right" => some 1
  | "dir", "left" => some 2
  | "dir", "up" => some 3
  | "dir", "down" => some 4
  | "dir", "diag" => some 5
  | "ax", "keep" => some 0
  | "ax", "right" => some 1
  | "ax", "left" => some 2
  | "ay", "keep" => some 0
  | "ay", "up" => some 1
  | "ay", "down" => some 2
  | _, _ => none

/-- The value of one operand, 0 where it is omitted (R98). Of an operand name given twice the first
value counts (DESIGN CHOICE, log 16: R98 is silent). -/
def AsmLine.value (l : AsmLine) (operand : String) : Option Int :=
  match l.operands.lookup operand with
  | none => some 0
  | some (.num v) => some v
  | some (.name s) => asmName operand s

/-- The operand as an `n`-bit field; a value that no `n`-bit pattern holds, signed or not, is
refused (log 11). -/
def AsmLine.field (l : AsmLine) (operand : String) (n : Nat) : Option (BitVec n) :=
  (l.value operand).bind fun v =>
    if -(2 : Int) ^ (n - 1) ≤ v ∧ v < (2 : Int) ^ n then some (BitVec.ofInt n v) else none

/-- Are all operands of the line among these names (R98)? -/
def AsmLine.only (l : AsmLine) (names : List String) : Bool :=
  l.operands.all fun o => names.contains o.1

/-- The command of a line (R98). -/
def asmInstr (l : AsmLine) : Option Instr :=
  match l.mnemonic with
  | "NOP" => if l.only [] then some .nop else none
  | "JOBRST" => if l.only [] then some .jobrst else none
  | "SPDENC" =>
    if l.only ["board", "fgv", "fgear", "raster_step", "feed_milli", "ratio_nano"] then do
      return .spdenc (← l.field "board" 4) (← l.field "fgv" 1) (← l.field "fgear" 3)
        (← l.field "raster_step" 10) (← l.field "feed_milli" 32) (← l.field "ratio_nano" 32)
    else none
  | "SPDDEC" => if l.only [] then some .spddec else none
  | "V2S" =>
    if l.only ["value", "b_milli", "m_milli"] then do
      return .v2s (← l.field "value" 32) (← l.field "b_milli" 32) (← l.field "m_milli" 32)
    else none
  | "S2V" =>
    if l.only ["feed_milli", "b_milli", "m_milli"] then do
      return .s2v (← l.field "feed_milli" 32) (← l.field "b_milli" 32) (← l.field "m_milli" 32)
    else none
  | "GEARSEL" =>
    if l.only ["raster", "feed_milli"] then do
      return .gearsel (← l.field "raster" 1) (← l.field "feed_milli" 32)
    else none
  | "TOKCLR" => if l.only [] then some .tokclr else none
  | "TOKPUT" => if l.only ["byte"] then (l.field "byte" 8).map .tokput else none
  | "TOKEMIT" => if l.only [] then some .tokemit else none
  | "MOVE" =>
    if l.only ["dir", "laser", "ax", "ay", "distance"] then do
      return .move (← l.field "dir" 3) (← l.field "laser" 1) (← l.field "ax" 2)
        (← l.field "ay" 2) (← l.field "distance" 32)
    else none
  | "FLUSH" => if l.only [] then some .flush else none
  | "EMIT" => if l.only ["byte"] then (l.field "byte" 8).map .emit else none
  | "DIST" => if l.only ["n"] then (l.field "n" 32).map .dist else none
  | "LINE" =>
    if l.only ["laser", "dx", "dy"] then do
      return .line (← l.field "laser" 1) (← l.field "dx" 32) (← l.field "dy" 32)
    else none
  | "FCLOSE" => if l.only [] then some .fclose else none
  | "CRCCLR" => if l.only [] then some .crcclr else none
  | "CRCUPD" => if l.only ["byte"] then (l.field "byte" 8).map .crcupd else none
  | _ => none

/-- "The encoding of a line is the 128-bit word of rule R70" (R98). -/
def asmWord (l : AsmLine) : Option CmdWord := (asmInstr l).bind encode

/-- The pseudo-instructions (R99). -/
inductive Pseudo where
  | cut (dx dy : Word32)
  | travel (dx dy : Word32)
  | ctrl (c : Byte)
  | handshake
  | tokset (text : List Byte)
  | endjob
  deriving DecidableEq, Repr

/-- The expansion of a pseudo-instruction (R99). -/
def Pseudo.expand : Pseudo → List Instr
  | .cut dx dy => [.line 1 dx dy]
  | .travel dx dy => [.line 0 dx dy]
  | .ctrl c => [.emit c]
  | .handshake => [.emit 0x53, .emit 0x31, .emit 0x45]
  | .tokset text => .tokclr :: text.map .tokput
  | .endjob => [.flush, .fclose]

/-- A segment of the host (43_job_sequences.md R195); `feed` and `loopId` stay with the host. -/
structure Segment where
  x0 : Int
  y0 : Int
  x1 : Int
  y1 : Int
  loopId : Nat
  feed : Nat
  laserOn : BitVec 1
  deriving DecidableEq, Repr

/-- The commands for one segment with the head at `(hx, hy)` (43_job_sequences.md R195 to R197): a
move with the laser off to the segment's start where the head is elsewhere, then the segment. The
repositioning is one LINE, the form R196 writes (DESIGN CHOICE, log 18: R197 leaves its decomposition
open). A displacement beyond 32 bits signed is taken mod 2^32 (DESIGN CHOICE, log 17: R195 gives no
range). -/
def segmentCommands (hx hy : Int) (g : Segment) : List Instr :=
  (if hx = g.x0 ∧ hy = g.y0 then []
   else [.line 0 (BitVec.ofInt 32 (g.x0 - hx)) (BitVec.ofInt 32 (g.y0 - hy))]) ++
  [.line g.laserOn (BitVec.ofInt 32 (g.x1 - g.x0)) (BitVec.ofInt 32 (g.y1 - g.y0))]

/-- The persisted job file (43_job_sequences.md R207): `S` with a line feed after every `N` and
before every `E`. -/
def jobFile (egv : List Byte) : List Byte :=
  egv.flatMap fun b => if b = 0x4E then [b, 0x0A] else if b = 0x45 then [0x0A, b] else [b]

end Sys2Proof.Machine
end

