-- ==== Sys2Proof/Tests/Slice0.lean ====
section
/-! SUPPORT. Our own tests. Expected values are those of spec/95_test_vectors.md (the vector is named
beside the theorem) or hand calculations from the rule named. At the end a witness for every statement
with hypotheses: a concrete state and operands that meet them. -/

namespace Sys2Proof.Tests

open Sys2Proof Sys2Proof.Machine Sys2Proof.Claim

-- one theorem after another: many kernel evaluations at once want more threads than the limit gives
set_option Elab.async false

/-! ### Helpers -/

/-- ASCII text as bytes. -/
def ascii (s : String) : List Byte := s.toList.map fun c => BitVec.ofNat 8 c.toNat

/-- Configuration CFG_T (95_test_vectors.md section 1). -/
def cfgT : Params where
  gearLutOpen f g :=
    if f = .ab then ⟨0, 0⟩
    else if g = 0 then ⟨10000000, BitVec.ofInt 32 (-2000000)⟩
    else if g = 2 then ⟨60000000, BitVec.ofInt 32 (-24000000)⟩
    else if g = 3 then ⟨60000000, BitVec.ofInt 32 (-30000000)⟩
    else ⟨60000000, BitVec.ofInt 32 (-36000000)⟩
  boardTable i :=
    if i = 0 then some ⟨"M2", .m, none, false⟩
    else if i = 1 then some ⟨"T-LOW", .m, some 7000, true⟩
    else if i = 2 then some ⟨"T-AB", .ab, none, false⟩
    else none
  roundBiasMilli := Config.roundBiasDefault
  diagCorr := Config.diagCorrDefault

/-- The state an instruction leaves; `s` itself where it stops. -/
def after (i : Instr) (s : State) : State :=
  match exec i s with
  | .next t => t
  | _ => s

/-- The state a step leaves; `s` itself where it stops. -/
def stepped (s : State) : State :=
  match step s with
  | .next t => t
  | _ => s

/-- SPDENC from reset in CFG_T. -/
def encodedT (board : BitVec 4) (fgv : BitVec 1) (fgear : BitVec 3) (rstep : BitVec 10)
    (feed ratio : Word32) : State :=
  (spdenc cfgT board fgv fgear rstep feed ratio State.reset).state

/-- Reset with this text in TOK. -/
def tokState (text : String) : State :=
  { State.reset with
    tok := Vector.ofFn fun i => (ascii text).getD i 0, tokLen := BitVec.ofNat 6 text.length }

/-- Reset with a run of `n` ticks to the right, laser on. -/
def runState (n : BitVec 31) : State :=
  { State.reset with mDir := 1, mDist := n, mLaser := 1, mAx := 1 }

/-- Reset with `n` bytes 0x61 in the frame buffer and the stream. -/
def fillState (n : BitVec 5) : State :=
  { State.reset with
    egv := List.replicate n.toNat 0x61, fbuf := Vector.replicate 30 0x61, fcnt := n }

/-- Reset with a fault held. -/
def faultState : State := { State.reset with fault := 1, finfo := 0xFFFFFFFF }

/-- Reset with one frame in `F`. -/
def frameState : State := { State.reset with frames := [frameOf (Vector.replicate 30 0x7A)] }

/-! ### WellFormed: an ill-formed term for each check -/

theorem test_wf_spdenc_board : (Instr.spdenc 3 0 0 0 12700 0).wellFormed cfgT = false := by decide
theorem test_wf_spdenc_gear : (Instr.spdenc 0 1 5 0 12700 0).wellFormed cfgT = false := by decide
theorem test_wf_spdenc_step : (Instr.spdenc 0 0 0 1000 12700 0).wellFormed cfgT = false := by decide
theorem test_wf_spdenc_ok : (Instr.spdenc 0 0 5 999 12700 0).wellFormed cfgT = true := by decide
theorem test_wf_move_dir0 : (Instr.move 0 0 0 0 5).wellFormed cfgT = false := by decide
theorem test_wf_move_dir6 : (Instr.move 6 0 0 0 5).wellFormed cfgT = false := by decide
theorem test_wf_move_ax : (Instr.move 1 0 3 0 5).wellFormed cfgT = false := by decide
theorem test_wf_move_ay : (Instr.move 1 0 0 3 5).wellFormed cfgT = false := by decide
theorem test_wf_move_ok : (Instr.move 5 1 2 2 5).wellFormed cfgT = true := by decide
theorem test_wf_reserved : (Instr.reserved 0x20).wellFormed cfgT = false := by decide
theorem test_wf_reserved_ok : (Instr.reserved 0xFF).wellFormed cfgT = true := by decide
theorem test_wf_dist1to25 : (Instr.dist1to25 26).wellFormed cfgT = false := by decide
theorem test_wf_dist26to51 : (Instr.dist26to51 25).wellFormed cfgT = false := by decide
theorem test_wf_dist52to254 : (Instr.dist52to254 255).wellFormed cfgT = false := by decide
theorem test_wf_run_dir : (Instr.run 6 10).wellFormed cfgT = false := by decide
theorem test_wf_run_zero : (Instr.run 1 0).wellFormed cfgT = false := by decide
theorem test_wf_token_gear : (Instr.tokenVector 0 5).wellFormed cfgT = false := by decide
theorem test_wf_token_steps : (Instr.tokenDiagonal 0 1 129 0).wellFormed cfgT = false := by decide
theorem test_wf_token_rstep : (Instr.tokenRaster 0 1 0).wellFormed cfgT = false := by decide

/-! ### Decoding: words written out from 30_encoding.md R70 to R79 (op, f, a0, a1, a2) -/

theorem test_decode_nop : decode 0x00000000000000000000000000000000 = .nop := by decide
theorem test_decode_jobrst : decode 0x01000000000000000000000000000000 = .jobrst := by decide
-- V27, V39a: raster_step in f[17:8], forced gear in f[7:4], board in f[3:0]
theorem test_decode_spdenc_raster :
    decode 0x1003E7000004E2000000000000000000 = .spdenc 0 0 0 999 320000 0 := by decide
theorem test_decode_spdenc_forced :
    decode 0x1000007100001B570F9194B900000000 = .spdenc 1 1 3 0 6999 261199033 := by decide
theorem test_decode_spddec : decode 0x11000000000000000000000000000000 = .spddec := by decide
theorem test_decode_v2s :
    decode 0x12000000FFFC39780399E000FF471040 =
      .v2s (BitVec.ofInt 32 (-247432)) 60416000 (BitVec.ofInt 32 (-12120000)) := by decide
theorem test_decode_s2v :
    decode 0x130000000000319C0399E000FF471040 =
      .s2v 12700 60416000 (BitVec.ofInt 32 (-12120000)) := by decide
theorem test_decode_gearsel :
    decode 0x14000001000186A00000000000000000 = .gearsel 1 100000 := by decide
theorem test_decode_tokclr : decode 0x18000000000000000000000000000000 = .tokclr := by decide
theorem test_decode_tokput : decode 0x19000043000000000000000000000000 = .tokput 0x43 := by decide
theorem test_decode_tokemit : decode 0x1A000000000000000000000000000000 = .tokemit := by decide
-- R74: f = ay.ax.laser.dir = 10.01.1.101 = 0x9D
theorem test_decode_move :
    decode 0x2000009DFFFFFFFB0000000000000000 = .move 5 1 1 2 (BitVec.ofInt 32 (-5)) := by decide
theorem test_decode_flush : decode 0x21000000000000000000000000000000 = .flush := by decide
theorem test_decode_emit : decode 0x2200004E000000000000000000000000 = .emit 0x4E := by decide
theorem test_decode_dist : decode 0x2300000000001DE20000000000000000 = .dist 7650 := by decide
theorem test_decode_line :
    decode 0x28000001FFFFFFF9FFFFFFFD00000000 =
      .line 1 (BitVec.ofInt 32 (-7)) (BitVec.ofInt 32 (-3)) := by decide
theorem test_decode_fclose : decode 0x30000000000000000000000000000000 = .fclose := by decide
theorem test_decode_crcclr : decode 0x31000000000000000000000000000000 = .crcclr := by decide
theorem test_decode_crcupd : decode 0x32000031000000000000000000000000 = .crcupd 0x31 := by decide
theorem test_decode_reserved :
    decode 0x33ABCDEF000000010000000200000003 = .reserved 0x33 := by decide
theorem test_decode_ignored : decode 0x00FFFFFFFFFFFFFFFFFFFFFFFFFFFFFF = .nop := by decide
theorem test_encode_move :
    encode (.move 1 1 0 0 10) = some 0x200000090000000A0000000000000000 := by decide
theorem test_encode_spdenc :
    encode (.spdenc 0 1 4 0 12700 0) = some 0x100000900000319C0000000000000000 := by decide
theorem test_table_word :
    decodeTableWord 128 0x2200004E000000000000000000000000 = some (.emit 0x4E) := by decide

/-! ### The output rows: bytes written out from 30_encoding.md R80 to R95 -/

theorem test_out_ctrlI : decodeOutput .control [0x49] = some .ctrlI := by decide
theorem test_out_ctrlS : decodeOutput .control [0x53] = some .ctrlS := by decide
theorem test_out_ctrl1 : decodeOutput .control [0x31] = some .ctrl1 := by decide
theorem test_out_ctrlE : decodeOutput .control [0x45] = some .ctrlE := by decide
theorem test_out_ctrlN : decodeOutput .control [0x4E] = some .ctrlN := by decide
theorem test_out_ctrlR : decodeOutput .control [0x52] = some .ctrlR := by decide
theorem test_out_ctrlL : decodeOutput .control [0x4C] = some .ctrlL := by decide
theorem test_out_ctrlB : decodeOutput .control [0x42] = some .ctrlB := by decide
theorem test_out_ctrlF : decodeOutput .control [0x46] = some .ctrlF := by decide
theorem test_out_ctrlAt : decodeOutput .control [0x40] = some .ctrlAt := by decide
theorem test_out_dirRight : decodeOutput .direction [0x42] = some .dirRight := by decide
theorem test_out_dirLeft : decodeOutput .direction [0x54] = some .dirLeft := by decide
theorem test_out_dirUp : decodeOutput .direction [0x4C] = some .dirUp := by decide
theorem test_out_dirDown : decodeOutput .direction [0x52] = some .dirDown := by decide
theorem test_out_dirDiag : decodeOutput .direction [0x4D] = some .dirDiag := by decide
theorem test_out_laserOn : decodeOutput .laser [0x44] = some .laserOn := by decide
theorem test_out_laserOff : decodeOutput .laser [0x55] = some .laserOff := by decide
-- R150's examples
theorem test_out_dist255 : decodeOutput .distance (ascii "z") = some .dist255 := by decide +kernel
theorem test_out_dist25 : decodeOutput .distance (ascii "y") = some (.dist1to25 25) := by
  decide +kernel
theorem test_out_dist51 : decodeOutput .distance (ascii "|z") = some (.dist26to51 51) := by
  decide +kernel
theorem test_out_dist52 : decodeOutput .distance (ascii "052") = some (.dist52to254 52) := by
  decide +kernel
theorem test_out_dist0 : decodeOutput .distance [] = some .dist0 := by decide
-- P2 step 5: 305 ticks to the right
theorem test_out_run : decodeOutput .run (ascii "Bz|y") = some (.run 1 305) := by decide +kernel
theorem test_out_tokenVector :
    decodeOutput .token (ascii "CV1410801") = some (.tokenVector 36176 1) := by decide +kernel
-- V33
theorem test_out_tokenDiagonal :
    decodeOutput .token (ascii "CV167762480681001314106") =
      some (.tokenDiagonal (-247740) 1 1 80490) := by decide +kernel
-- V25
theorem test_out_tokenRaster :
    decodeOutput .token (ascii "V2212493G001") = some (.tokenRaster 56825 3 1) := by decide +kernel
theorem test_out_valueField :
    decodeOutput .value (ascii "16776249120") = some (.valueField (-247432)) := by decide +kernel
-- V68
theorem test_out_frame :
    decodeOutput .frame ([0xA6, 0x00] ++ List.replicate 30 0x7A ++ [0xA6, 0xF9]) =
      some (.frame (Vector.replicate 30 0x7A)) := by decide +kernel

/-! ### One step -/

-- R235
theorem test_nop : after .nop (runState 10) = runState 10 := by decide +kernel
-- R236's example
theorem test_jobrst :
    let t := after .jobrst { runState 10 with fault := 1, fcnt := 4, egv := [0x44] }
    t.fault = 0 ∧ t.mDir = 0 ∧ t.mDist = 0 ∧ t.fcnt = 0 ∧ t.egv = [0x44] := by decide +kernel
-- V33: negative value, diagonal suffix
theorem test_spdenc_diagonal :
    let t := encodedT 0 0 0 0 999 261199033
    t.tokenText = ascii "CV167762480681001314106" ∧ t.rv.toInt = -247740 ∧ t.rs = 1 ∧
      t.rd = 80490 := by decide +kernel
-- V39a: the low-speed override keeps the forced gear
theorem test_spdenc_override :
    let t := encodedT 1 1 3 0 6999 0
    t.tokenText = ascii "CV0101823" ∧ t.rv = 2742 ∧ t.rg = 3 := by decide +kernel
-- V40h: 21 digits, short then long
theorem test_spddec_split :
    let t := after .spddec (tokState "CV141080101316776249120")
    t.rv = 36176 ∧ t.rg = 1 ∧ t.rs = 13 ∧ t.rd.toInt = -247432 ∧ t.rr = 0 := by decide +kernel
-- V45m
theorem test_spddec_malformed :
    let t := after .spddec (tokState "V1410801G002G")
    t.fault = 3 ∧ t.finfo = 13 ∧ t.rv = 0 := by decide +kernel
-- V41i
theorem test_v2s_negative :
    (after (.v2s 70000 60416000 (BitVec.ofInt 32 (-12120000))) State.reset).rspd.toInt = -32121 := by
  decide +kernel
-- V41l
theorem test_v2s_saturates :
    (after (.v2s 0 1 2147483647) State.reset).rspd = 0x80000000 := by decide +kernel
-- V42b, at the default rounding bias
theorem test_s2v_value : speedToValue cfgT 12700 60416000 (-12120000) = 36176 := by decide +kernel
theorem test_s2v_zero_feed : speedToValue cfgT 0 60416000 (-12120000) = 60416 := by decide +kernel
-- R133's example, R113's row for 320 exactly
theorem test_gearsel : (after (.gearsel 1 100000) State.reset).rg = 2 := by decide +kernel
theorem test_gearsel_320 : (after (.gearsel 1 320000) State.reset).rg = 3 := by decide +kernel
theorem test_tokclr : (after .tokclr (tokState "CV1410801")).tokLen = 0 := by decide +kernel
theorem test_tokput :
    (after (.tokput 0x43) (tokState "V14")).tokenText = ascii "V14C" := by decide +kernel
theorem test_tokput_full :
    (after (.tokput 0x43) { State.reset with tokLen := 32 }).fault = 4 := by decide +kernel
theorem test_tokemit : (after .tokemit (tokState "CV1410801")).egv = ascii "CV1410801" := by
  decide +kernel
-- R156's example
theorem test_move_first :
    after (.move 1 1 0 0 10) State.reset =
      { runState 10 with egv := [0x44], fbuf := (Vector.replicate 30 0).set 0 0x44, fcnt := 1 } := by
  decide +kernel
-- V60: a contradicting sub-direction does not coalesce
theorem test_move_contradiction :
    (after (.move 1 1 2 0 5) (runState 5)).egv = ascii "BeT" := by decide +kernel
-- R157's example
theorem test_flush : (after .flush (runState 10)).egv = ascii "Bj" := by decide +kernel
-- V60a
theorem test_emit : (after (.emit 0x4E) (runState 10)).egv = ascii "N" ∧
    (after (.emit 0x4E) (runState 10)).mDist = 10 := by decide +kernel
-- R159's example
theorem test_dist : (after (.dist 300) State.reset).egv = ascii "z|t" := by decide +kernel
-- V40
theorem test_line :
    let t := after (.line 1 7 3) State.reset
    t.egv = ascii "DBLBaMaBaMaBaMa" ∧ t.mDir = 1 ∧ t.mDist = 1 := by decide +kernel
-- V61h
theorem test_line_negative :
    (after (.line 1 (BitVec.ofInt 32 (-7)) (BitVec.ofInt 32 (-3))) State.reset).egv =
      ascii "DTRTaMaTaMaTaMa" := by decide +kernel
-- V66: CRC 0xAD
theorem test_fclose :
    ((after .fclose { State.reset with
        fbuf := ((Vector.replicate 30 0).set 0 0x42).set 1 0x61, fcnt := 2 }).frames.map
      fun f => f[33]) = [0xAD] := by decide +kernel
theorem test_crcclr : (after .crcclr { State.reset with rcrc := 0x5E }).rcrc = 0 := by
  decide +kernel
-- V64, and V63's 01 00
theorem test_crcupd : (after (.crcupd 0x01) State.reset).rcrc = 0x5E := by decide +kernel
theorem test_crcupd_again :
    (after (.crcupd 0x00) { State.reset with rcrc := 0x5E }).rcrc = 0xC4 := by decide +kernel
-- V70
theorem test_reserved : (after (.reserved 0xFF) State.reset).finfo = 0xFF := by decide +kernel
theorem test_out_control_meaning : (after .ctrlAt State.reset).egv = ascii "@" := by decide +kernel
theorem test_out_run_meaning : (after (.run 4 300) State.reset).egv = ascii "Rz|t" := by
  decide +kernel
theorem test_out_token_meaning :
    (after (.tokenRaster 48296 1 2) State.reset).egv = ascii "V1881681G002" := by decide +kernel
theorem test_out_frame_meaning :
    (after (.frame (Vector.replicate 30 0xFF)) State.reset).frames.map (fun f => f[33]) = [0xFA] := by
  decide +kernel
-- V61: the 1-Wire check value
theorem test_crc_check : crc8 (ascii "123456789") = 0xA1 := by decide +kernel
-- V60a through the port
theorem test_step :
    (stepped (State.reset.withFetchWord 128 0x2200004E000000000000000000000000)).egv = [0x4E] := by
  decide +kernel
theorem test_assembly :
    asmWord ⟨"MOVE", [("dir", .name "right"), ("laser", .num 1), ("distance", .num 10)]⟩ =
      some 0x200000090000000A0000000000000000 := by decide +kernel
theorem test_job_file : jobFile (ascii "INSE") = ascii "IN\nS\nE" := by decide +kernel
theorem test_hazards :
    hazards (.emit 0x42) (runState 5) = [.rawBytesOvertake, .rawModalByte] := by decide +kernel

/-! ### Witnesses: for each statement, states and operands that meet its hypotheses -/

theorem witness_DecodeInvertsEncode :
    encode (.spdenc 15 1 7 1023 0xFFFFFFFF 0xFFFFFFFF) =
      some 0x1003FFFFFFFFFFFFFFFFFFFF00000000 ∧
    encode (.reserved 0xFF) = some 0xFF000000000000000000000000000000 := by decide

theorem witness_IgnoredFieldsHaveNoEffect :
    let w : CmdWord := 0x30000000000000000000000000000000
    let w' : CmdWord := 0x30FFFFFFFFFFFFFFFFFFFFFFFFFFFFFF
    w &&& usedBits (decode w) = w' &&& usedBits (decode w) ∧ w ≠ w' := by decide

theorem witness_OutputRowsReadBack_groups :
    (Instr.dist1to25 1).wellFormed cfgT = true ∧ outClass (.dist1to25 1) = some .distance ∧
    outputBytes (.dist1to25 1) = some [0x61] ∧ (Instr.dist26to51 51).wellFormed cfgT = true ∧
    outputBytes (.dist26to51 51) = some [0x7C, 0x7A] ∧
    (Instr.dist52to254 254).wellFormed cfgT = true ∧
    outputBytes (.dist52to254 254) = some [0x32, 0x35, 0x34] := by decide +kernel

theorem witness_OutputRowsReadBack_token :
    (Instr.tokenDiagonal 255999 4 128 (-198967040)).wellFormed cfgT = true ∧
    outClass (.tokenDiagonal 255999 4 128 (-198967040)) = some .token ∧
    (outputBytes (.tokenDiagonal 255999 4 128 (-198967040))).isSome = true ∧
    decodable 255999 ∧ decodable (-198967040) ∧
    ¬ambiguousDiagonal 255999 4 128 (-198967040) := by
  refine ⟨by decide, rfl, rfl, .inl (by decide), .inr (by decide), fun h => ?_⟩
  exact absurd h.2.2 (by decide +kernel)

theorem witness_StepRunsTheDecodedCommand :
    (State.reset.withFetchWord 128 0x2200004E000000000000000000000000).queue =
      0x2200004E000000000000000000000000#128 :: [] ∧ State.reset.queue = [] := by decide +kernel

theorem witness_RaiseKeepsTheFirstFault :
    State.reset.fault = 0 ∧ faultState.fault ≠ 0 := by decide

theorem witness_FaultedBlockRefusesCommands :
    let s := faultState.withFetchWord 128 0xFF000000000000000000000000000000
    faultState.fault ≠ 0 ∧ Instr.flush ≠ .jobrst ∧ s.fault ≠ 0 ∧
    s.queue = 0xFF000000000000000000000000000000#128 :: [] ∧
    decode 0xFF000000000000000000000000000000 ≠ .jobrst := by decide +kernel

theorem witness_ReservedOpcodeRaisesIllegalCommand :
    State.reset.fault = 0 ∧ opField 0x02000000000000000000000000000000 ∉ opcodeMap ∧
    opField 0x33ABCDEF000000010000000200000003 ∉ opcodeMap ∧
    opField 0xFF000000000000000000000000000000 ∉ opcodeMap := by decide

theorem witness_FaultingCommandChangesNothingElse :
    (runState 2147483647).fault = 0 ∧
    exec (.line 1 5 0) (runState 2147483647) =
      .next (after (.line 1 5 0) (runState 2147483647)) ∧
    (after (.line 1 5 0) (runState 2147483647)).fault ≠ 0 := ⟨rfl, rfl, by decide +kernel⟩

theorem witness_ReconstructionMismatchIsUnreachable :
    State.reset.fault = 0 ∧
    exec (.line 1 7 3) State.reset = .next (after (.line 1 7 3) State.reset) := ⟨rfl, rfl⟩

theorem witness_FaultsComeOnlyFromTheirCommands :
    (after (.move 1 0 0 0 0xFFFFFFFF) State.reset).fault = 1 ∧
    (after (.dist 0x80000000) State.reset).fault = 1 ∧
    (after (.line 0 0x80000000 0) State.reset).fault = 1 ∧
    (after .spddec (tokState "CV141080")).fault = 3 ∧
    (after (.tokput 0) { State.reset with tokLen := 32 }).fault = 4 ∧
    (after (.move 6 0 0 0 5) State.reset).fault = 4 ∧
    (after (.reserved 0x02) State.reset).fault = 4 ∧
    exec (.dist 0x80000000) State.reset = .next (after (.dist 0x80000000) State.reset) :=
  ⟨by decide +kernel, by decide +kernel, by decide +kernel, by decide +kernel, by decide +kernel,
    by decide +kernel, by decide +kernel, rfl⟩

-- the information word of LINE: an operand of -2^31, the first move of a simple and of a general line
theorem witness_FaultsComeOnlyFromTheirCommands_line :
    (after (.line 0 5 0x80000000) State.reset).finfo = 0x80000000 ∧
    firstMoveTicks 5 0 = 5 ∧ (after (.line 1 5 0) (runState 2147483647)).finfo = 5 ∧
    firstMoveTicks 10 1 = 4 ∧
    (after (.line 1 10 1) { runState 2147483647 with mAy := 1 }).finfo = 4 := by decide +kernel

theorem witness_FaultsComeOnlyFromTheirCommands_spdenc :
    exec (.spdenc 0 0 0 1000 12700 0) State.reset = .next (withFault 4 0x10 State.reset) := by
  show Host.Outcome.next (spdenc Config.params 0 0 0 1000 12700 0 State.reset).state = _
  unfold spdenc
  cases Config.params.boardTable 0 <;> rfl

theorem witness_LegalStateIsKept :
    let s := (runState 10).withFetchWord 128 0x21000000000000000000000000000000
    s.legal = true ∧ step s = .next (stepped s) := ⟨by decide +kernel, rfl⟩

theorem witness_SoundFramesAreKept :
    let s := frameState.withFetchWord 128 0x32000001000000000000000000000000
    s.framesSound = true ∧ s.frames.length = 1 ∧ step s = .next (stepped s) :=
  ⟨by decide +kernel, rfl, rfl⟩

theorem witness_StreamsOnlyGrow :
    exec (.emit 0x4E) frameState = .next (after (.emit 0x4E) frameState) := rfl

theorem witness_FramerCarriesTheStream :
    (fillState 29).fcnt ≤ 29 ∧
    exec .fclose (fillState 29) = .next (after .fclose (fillState 29)) ∧
    exec .jobrst State.reset = .next (after .jobrst State.reset) ∧ State.reset.fcnt = 0 ∧
    exec (.emit 0x4E) (fillState 29) = .next (after (.emit 0x4E) (fillState 29)) :=
  ⟨by decide, rfl, rfl, rfl, rfl⟩

theorem witness_RegistersAreWrittenOnlyByTheirCommands :
    exec .flush (runState 10) = .next (after .flush (runState 10)) ∧ Instr.flush ≠ .jobrst ∧
    (∀ d l x y n, Instr.flush ≠ .move d l x y n) ∧ (∀ l dx dy, Instr.flush ≠ .line l dx dy) ∧
    (∀ b v g r f q, Instr.flush ≠ .spdenc b v g r f q) ∧ Instr.flush ≠ .spddec ∧
    (∀ v b m, Instr.flush ≠ .v2s v b m) ∧ (∀ b, Instr.flush ≠ .tokput b) ∧
    Instr.flush ≠ .crcclr ∧ (∀ b, Instr.flush ≠ .crcupd b) := by
  refine ⟨rfl, ?_⟩
  simp

theorem witness_NopChangesNothing : opField 0x00FFFFFFFFFFFFFFFFFFFFFFFFFFFFFF = 0x00 := by decide

theorem witness_JobResetClearsTheJobState :
    opField 0x01000000000000050000000700000009 = 0x01 ∧ Instr.flush ≠ .jobrst ∧
    faultState.fault ≠ 0 := by decide

theorem witness_ValueFieldBitsAndLength :
    (encodeValue 0).length = 6 ∧ (encodeValue 65535).length = 6 ∧
    (encodeValue (-1734967296)).length = 11 ∧ (encodeValue (-1)).length = 11 := by decide +kernel

theorem witness_DecimalDigitsReadBack : (dec3 999).length = 3 ∧ (dec3 1000).length = 4 := by
  decide +kernel

theorem witness_SpdencWritesTheRasterToken :
    State.reset.fault = 0 ∧ ((1 : BitVec 1) = 1 → (4 : BitVec 3) ≤ 4) ∧ (999 : BitVec 10) ≠ 0 ∧
    (999 : BitVec 10) ≤ 999 := by decide

-- V25: the statement's branch for a board with an entry
theorem witness_SpdencWritesTheRasterToken_entry :
    (cfgT.boardTable 0).isSome = true ∧
    (encodedT 0 0 0 1 240001 0).tokenText = ascii "V2212493G001" := by decide +kernel

theorem witness_SpdencWritesTheVectorToken :
    State.reset.fault = 0 ∧ ((0 : BitVec 1) = 1 → (7 : BitVec 3) ≤ 4) := by decide

-- V31, V38: with and without the diagonal suffix
theorem witness_SpdencWritesTheVectorToken_entry :
    (cfgT.boardTable 0).isSome = true ∧ (cfgT.boardTable 1).isSome = true ∧
    (encodedT 0 0 0 0 12700 261199033).tokenText = ascii "CV1410801013001231" ∧
    (encodedT 1 0 0 0 6999 261199033).tokenText = ascii "CV0101821" := by decide +kernel

theorem witness_SpdencIllegalFieldsFault :
    State.reset.fault = 0 ∧ ((1 : BitVec 1) = 1 ∧ (4 : BitVec 3) < 5) ∧
    (999 : BitVec 10) < 1000 := by decide

theorem witness_SpddecAcceptsExactlyTheGrammar :
    (tokState "CV1410801").fault = 0 ∧
    Grammar (tokState "CV1410801").tokenText ⟨36176, 1, 0, 0, 0⟩ := by
  refine ⟨rfl, [0x43], ascii "1410801", [], by decide +kernel, .inr rfl, .inl rfl,
    ascii "141080", ascii "1", ⟨by decide +kernel, .inl (by decide +kernel)⟩, by decide +kernel,
    by decide, .inl ⟨by decide +kernel, rfl, rfl, rfl⟩⟩

theorem witness_SpddecAcceptsExactlyTheGrammar_none :
    State.reset.fault = 0 ∧ ∀ f : TokenFields, ¬Grammar State.reset.tokenText f := by
  refine ⟨rfl, ?_⟩
  rintro f ⟨lead, body, trail, h, -⟩
  exact absurd (congrArg List.length h) (by simp [State.tokenText, State.reset])

theorem witness_SpddecInvertsTheTokenForms_vector :
    decodable (-198967040) ∧
    (tokState "CV160000010000").tokenText = tokenVectorBytes (-198967040) (0 : BitVec 3).toNat ∧
    (tokState "CV9992554").tokenText = tokenVectorBytes 255999 (4 : BitVec 3).toNat ∧
    decodable 255999 :=
  ⟨.inr (by decide), by decide +kernel, by decide +kernel, .inl (by decide)⟩

theorem witness_SpddecInvertsTheTokenForms_suffixes :
    decodable 48296 ∧ decodable (-1) ∧ decodable (-247432) ∧ (1 : BitVec 3) ≤ 4 ∧
    (13 : BitVec 10) ≤ 999 ∧ (2 : BitVec 10) ≤ 999 ∧
    (tokState "V1881681G002").tokenText =
      tokenRasterBytes 48296 (1 : BitVec 3).toNat (2 : BitVec 10).toNat ∧
    (tokState "CV16776249120101316777215255").tokenText =
      tokenDiagonalBytes (-247432) (1 : BitVec 3).toNat (13 : BitVec 10).toNat (-1) ∧
    ¬ambiguousDiagonal (-247432) (1 : BitVec 3).toNat (13 : BitVec 10).toNat (-1) :=
  ⟨.inl (by decide), .inr (by decide), .inr (by decide), by decide, by decide, by decide,
    by decide +kernel, by decide +kernel, fun h => absurd h.1 (by decide)⟩

theorem witness_V2sResult : opField 0x12000000000000050000000700000009 = 0x12 ∧
    State.reset.fault = 0 := by decide

theorem witness_S2vResult : opField 0x13000000000000050000000700000009 = 0x13 ∧
    State.reset.fault = 0 := by decide

theorem witness_GearselFollowsTheBandTable :
    opField 0x14000000000000050000000700000009 = 0x14 ∧
    State.reset.fault = 0 ∧ (after (.gearsel 0 25400) State.reset).rg = 1 ∧
    (after (.gearsel 0 60000) State.reset).rg = 2 ∧ (after (.gearsel 0 126999) State.reset).rg = 3 ∧
    (after (.gearsel 0 127000) State.reset).rg = 4 ∧
    (after (.gearsel 1 320001) State.reset).rg = 4 := by decide +kernel

theorem witness_TokclrEmptiesTheToken : opField 0x18000000000000050000000700000009 = 0x18 ∧
    (tokState "CV1410801").fault = 0 := ⟨by decide, rfl⟩

theorem witness_TokputAppendsOrFaults :
    let s := { State.reset with tokLen := 31 }
    let t := { State.reset with tokLen := 32 }
    opField 0x19000000000000050000000700000009 = 0x19 ∧
    s.fault = 0 ∧ s.tokLen.toNat < 32 ∧ t.fault = 0 ∧ t.tokLen = 32 := by decide

theorem witness_TokemitAppendsTheToken : opField 0x1A000000000000050000000700000009 = 0x1A ∧
    (tokState "CV1410801").fault = 0 := ⟨by decide, rfl⟩

theorem witness_EmitFeedsStreamAndFrameBuffer :
    opField 0x22000000000000050000000700000009 = 0x22 ∧
    (fillState 28).fault = 0 ∧ (fillState 28).fcnt.toNat < 29 ∧ (fillState 29).fault = 0 ∧
    (fillState 29).fcnt = 29 := by decide

theorem witness_EmitListFeedsStreamAndFramer : (fillState 29).fcnt ≤ 29 := by decide

theorem witness_MoveAccumulatesInTheSameState :
    let s := runState 2147483646
    s.fault = 0 ∧ (1 : BitVec 3) ≠ 0 ∧ (1 : BitVec 3) ≤ 5 ∧ (1 : BitVec 2) ≠ 3 ∧
    (0 : BitVec 2) ≠ 3 ∧ 0 ≤ (1 : Word32).toInt ∧ 0 ≤ (2 : Word32).toInt ∧ 1 = s.mDir ∧
    1 = s.mLaser ∧ 1 = s.mAx ∧ s.mDist.toNat + (1 : Word32).toNat < 2 ^ 31 ∧
    2 ^ 31 ≤ s.mDist.toNat + (2 : Word32).toNat := by decide

theorem witness_MoveStartsANewRun :
    let s := runState 10
    s.fault = 0 ∧ (5 : BitVec 3) ≠ 0 ∧ (5 : BitVec 3) ≤ 5 ∧ (2 : BitVec 2) ≠ 3 ∧
    0 ≤ (0x7FFFFFFF : Word32).toInt ∧
    ¬(5 = s.mDir ∧ 0 = s.mLaser ∧ 2 = s.mAx ∧ 2 = s.mAy) := by decide

theorem witness_MoveFaultsBeforeAnyEffect :
    State.reset.fault = 0 ∧ (5 : BitVec 3) < 6 ∧ (1 : BitVec 3) ≠ 0 ∧ (1 : BitVec 3) ≤ 5 ∧
    (0 : BitVec 2) ≠ 3 ∧ (0xFFFFFFFF : Word32).toInt < 0 := by decide

theorem witness_IdenticalMovesCoalesce :
    let s := runState 10
    let u := after (.move 5 0 2 2 3) s
    let v := after (.move 5 0 2 2 4) u
    s.fault = 0 ∧ contradicts 5 2 2 = false ∧ exec (.move 5 0 2 2 3) s = .next u ∧
    exec (.move 5 0 2 2 4) u = .next v ∧ v.fault = 0 :=
  ⟨rfl, by decide, rfl, rfl, by decide +kernel⟩

theorem witness_FlushEmitsThePendingRunOnce :
    opField 0x21000000000000050000000700000009 = 0x21 ∧
    (runState 10).fault = 0 ∧
    exec .flush (runState 10) = .next (after .flush (runState 10)) := ⟨by decide, rfl, rfl⟩

theorem witness_DistEmitsTheDistanceCode :
    opField 0x23000000000000050000000700000009 = 0x23 ∧
    State.reset.fault = 0 ∧ 0 ≤ (0 : Word32).toInt ∧ 0 ≤ (0x7FFFFFFF : Word32).toInt ∧
    (0xFFFFFFFF : Word32).toInt < 0 ∧ (0x80000000 : Word32).toInt < 0 := by decide

theorem witness_LineZeroAndOutOfRange :
    State.reset.fault = 0 ∧ (0x80000000 : Word32) = BitVec.ofInt 32 (-2147483648) := by decide

theorem witness_SimpleLinesAreOneMove :
    0 < (1 : Word32).toInt ∧ 0 < (0x7FFFFFFF : Word32).toInt := by decide

theorem witness_RoundingAndAccumulatorAgree : 0 < 1 ∧ 1 < 2 := by decide

theorem witness_LineRunsReconstructTheLine :
    0 < 3 ∧ 3 < 7 ∧ lineRuns 7 3 =
      [(.primary, 1), (.diagonal, 1), (.primary, 1), (.diagonal, 1), (.primary, 1), (.diagonal, 1),
       (.primary, 1)] := by decide +kernel

-- MDIST at its largest, a line to the left, which does not coalesce with it
theorem witness_GeneralLineIsTheBresenhamWalk :
    let dx : Word32 := BitVec.ofInt 32 (-7)
    let s := runState 2147483647
    s.fault = 0 ∧ dx ≠ 0 ∧ (3 : Word32) ≠ 0 ∧ dx ≠ 0x80000000 ∧ (3 : Word32) ≠ 0x80000000 ∧
    dx.toInt.natAbs ≠ (3 : Word32).toInt.natAbs ∧ firstLineRun dx 3 = (.primary, 1) ∧
    ¬((2 : BitVec 3) = s.mDir) := by decide +kernel

-- V62c: the first run P1 coalesces, one tick more than fits, and one tick less
theorem witness_GeneralLineIsTheBresenhamWalk_overflow :
    let s := { runState 2147483647 with mAy := 1 }
    let u := { runState 2147483646 with mAy := 1 }
    s.fault = 0 ∧ firstLineRun 7 3 = (.primary, 1) ∧ 1 = s.mDir ∧ 1 = s.mLaser ∧ 1 = s.mAx ∧
    1 = s.mAy ∧ 2 ^ 31 ≤ s.mDist.toNat + 1 ∧ u.fault = 0 ∧ u.mDist.toNat + 1 < 2 ^ 31 ∧
    after (.line 1 7 3) s = withFault 1 1 s := by decide +kernel

theorem witness_FclosePadsThePartialFrame :
    opField 0x30000000000000050000000700000009 = 0x30 ∧
    State.reset.fault = 0 ∧ State.reset.fcnt = 0 ∧ (fillState 1).fault = 0 ∧
    (fillState 1).fcnt ≠ 0 ∧ (fillState 29).fcnt ≠ 0 := by decide

theorem witness_CrcDetectsEverySingleBitChange :
    0 < 8 ∧ 7 < 8 ∧ crc8 [0x01] = 0x5E ∧ crc8 [0x00] = 0x00 ∧ crc8 [0x80] = 0x8C := by
  decide +kernel

theorem witness_CrcCommandsComputeTheCrc : opField 0x31000000000000050000000700000009 = 0x31 ∧
    opField 0x32000000000000050000000700000009 = 0x32 ∧ State.reset.fault = 0 := by decide

theorem witness_FlushAndFcloseDrainTheJob :
    let s := { runState 10 with fcnt := 29 }
    s.fault = 0 ∧ s.fcnt ≤ 29 := by decide

theorem witness_ByteRowsEmitTheirByte : (fillState 29).fault = 0 := rfl

theorem witness_DistanceRowsEmitTheirTicks :
    State.reset.fault = 0 ∧ 1 ≤ 1 ∧ 25 ≤ 25 ∧ 26 ≤ 26 ∧ 51 ≤ 51 ∧ 52 ≤ 52 ∧ 254 ≤ 254 := by decide

theorem witness_TokenRowsEmitTheirText : State.reset.fault = 0 := rfl

theorem witness_FrameRowAppendsTheFrame :
    (fillState 29).fault = 0 ∧ (fillState 29).fcnt ≤ 29 := by decide

end Sys2Proof.Tests
end

section
/-! SUPPORT. The statements of spec/00_scope.md: one step (R13), the rounding of the linear value in
integers (R10; 40_speed_codec.md R117) and the decimal notation (R17). -/

namespace Sys2Proof.Machine

open Sys2Proof.Claim

/-! ### One step -/

theorem step_of_queue_cons {s : State} {w : CmdWord} {ws : List CmdWord} (h : s.queue = w :: ws) :
    step s = exec (decode w) { s with queue := ws, history := s.history ++ [w] } := by
  rw [← consume_cons h]
  simp only [step, fetch_cons h]

theorem step_of_queue_nil {s : State} (h : s.queue = []) : step s = .next s := by
  have hfetch : s.fetch = none := by rw [State.fetch, h, List.head?_nil]
  simp only [step, hfetch]

/-- Settles O7, by the two cases of the command port. -/
theorem stepRunsTheDecodedCommand : Obligations.StepRunsTheDecodedCommand :=
  ⟨fun _ _ _ h => step_of_queue_cons h, fun _ h => step_of_queue_nil h⟩

/-! ### Rounding a register value -/

/-- A value written as a fraction of thousandths rounds to one integer quotient. -/
theorem roundReg_of_eq_div {c : Params} {v : Rat} {n : Int} {d : Nat}
    (h : v + (c.roundBiasMilli : Rat) / 1000 = (n : Rat) / (d : Rat)) : roundReg c v = n / d := by
  rw [roundReg, h]
  exact Rat.floor_intCast_div_natCast n d

@[simp] theorem linValue_zero (b m : Int) : linValue 0 b m = (b : Rat) / 1000 := by simp [linValue]

/-- The linear value and the bias over the common denominator `1000 F`. -/
theorem linValue_add_bias {feed : Nat} (hf : feed ≠ 0) (b m bias : Int) :
    linValue feed b m + (bias : Rat) / 1000 =
      ((b * feed + 25400 * m + bias * feed : Int) : Rat) / ((1000 * feed : Nat) : Rat) := by
  have hq : (feed : Rat) ≠ 0 := Nat.cast_ne_zero.mpr hf
  rw [linValue, if_neg hf]
  push_cast
  field_simp

/-- Settles O23: one case per case of R116, feed zero and not. -/
theorem registerValueInIntegers : Obligations.RegisterValueInIntegers := by
  intro c feed b m
  by_cases hf : feed = 0
  · subst hf
    have hsum : linValue 0 b m + (c.roundBiasMilli : Rat) / 1000 =
        ((b + c.roundBiasMilli : Int) : Rat) / ((1000 : Nat) : Rat) := by
      rw [linValue_zero]; push_cast; ring
    rw [roundReg_of_eq_div hsum, registerValue, if_pos rfl, Nat.cast_ofNat]
  · rw [roundReg_of_eq_div (linValue_add_bias hf b m _), registerValue, if_neg hf]
    push_cast
    rfl

/-! ### Decimal notation -/

/-- The decimal digits of `n`, least significant first, filled up with zeros to at least three. -/
def paddedDigits (n : Nat) : List Nat :=
  Nat.digits 10 n ++ List.replicate (3 - (Nat.digits 10 n).length) 0

theorem dec3_eq_paddedDigits (n : Nat) : dec3 n = ((paddedDigits n).map digitByte).reverse := by
  have hzero : digitByte 0 = 0x30 := rfl
  simp [dec3, paddedDigits, hzero]

theorem ofDigits_paddedDigits (n : Nat) : Nat.ofDigits 10 (paddedDigits n) = n := by
  rw [paddedDigits, Nat.ofDigits_append_replicate_zero, Nat.ofDigits_digits]

theorem paddedDigits_lt_ten {n d : Nat} (h : d ∈ paddedDigits n) : d < 10 := by
  rcases List.mem_append.mp h with hd | hd
  · exact Nat.digits_lt_base (by decide) hd
  · rw [List.eq_of_mem_replicate hd]; decide

theorem length_paddedDigits (n : Nat) :
    (paddedDigits n).length = max 3 (Nat.digits 10 n).length := by
  rw [paddedDigits, List.length_append, List.length_replicate]
  omega

theorem digitByte_toNat {d : Nat} (h : d < 10) : (digitByte d).toNat = 0x30 + d := by
  rw [digitByte, BitVec.toNat_ofNat]
  omega

theorem isDigit_digitByte {d : Nat} (h : d < 10) : isDigit (digitByte d) = true := by
  rw [isDigit, digitByte_toNat h, decide_eq_true_iff]
  omega

/-- `Num` of digit bytes, most significant first, is the number of those digits. -/
theorem num_reverse_map_digitByte {ds : List Nat} (h : ∀ d ∈ ds, d < 10) :
    num (ds.map digitByte).reverse = Nat.ofDigits 10 ds := by
  have hread : ds.map (fun d => (digitByte d).toNat - 0x30) = ds := by
    refine (List.map_congr_left fun d hd => ?_).trans ds.map_id
    rw [digitByte_toNat (h d hd), Nat.add_sub_cancel_left, id]
  rw [num, List.map_reverse, List.reverse_reverse, List.map_map]
  exact congrArg _ hread

theorem num_dec3 (n : Nat) : num (dec3 n) = n := by
  rw [dec3_eq_paddedDigits, num_reverse_map_digitByte fun _ => paddedDigits_lt_ten,
    ofDigits_paddedDigits]

theorem dec3_all_isDigit (n : Nat) : (dec3 n).all isDigit = true := by
  rw [dec3_eq_paddedDigits, List.all_reverse, List.all_map, List.all_eq_true]
  exact fun _ hd => isDigit_digitByte (paddedDigits_lt_ten hd)

theorem length_dec3 (n : Nat) : (dec3 n).length = max 3 (Nat.digits 10 n).length := by
  rw [dec3_eq_paddedDigits, List.length_reverse, List.length_map, length_paddedDigits]

theorem length_dec3_of_lt_thousand {n : Nat} (h : n < 1000) : (dec3 n).length = 3 := by
  have hdigits : (Nat.digits 10 n).length ≤ 3 := (Nat.digits_length_le_iff (by decide) n).mpr h
  rw [length_dec3, max_eq_left hdigits]

/-- Settles O25: `dec3` writes the digits of `n` filled up with zeros, which `num` reads as `n`. -/
theorem decimalDigitsReadBack : Obligations.DecimalDigitsReadBack :=
  fun n => ⟨num_dec3 n, dec3_all_isDigit n, length_dec3 n ▸ le_max_left _ _,
    length_dec3_of_lt_thousand⟩

end Sys2Proof.Machine
end

section
/-! SUPPORT. What one instruction can do to the state, said once (`exec_effect`), and what a line keeps
because its moves do (`line_keeps`). -/

namespace Sys2Proof.Machine

open Sys2Proof.Claim

/-! ### Updates as equations: the fields named are written, all others are those of `s` -/

theorem emitList_eq_withStreamsOf (bs : List Byte) (s : State) :
    emitList bs s = withStreamsOf (emitList bs s) s := by
  ext1 <;> simp [withStreamsOf]

theorem closeFrame_eq_withStreamsOf (s : State) :
    closeFrame s = withStreamsOf (closeFrame s) s := by
  ext1 <;> simp [withStreamsOf]

theorem flush_eq_withStreamsOf (s : State) :
    flush s = { withStreamsOf (flush s) s with mDist := 0 } := by
  ext1 <;> simp [withStreamsOf]

theorem startRun_eq_withStreamsOf (d : BitVec 3) (n : Int) (l : BitVec 1) (x y : BitVec 2)
    (s : State) :
    startRun d n l x y s =
      { withStreamsOf (startRun d n l x y s) s with
        mDir := d, mDist := BitVec.ofInt 31 n, mLaser := l,
        mAx := if d = 1 then 1 else if d = 2 then 2 else x,
        mAy := if d = 3 then 1 else if d = 4 then 2 else y } := by
  ext1 <;> simp [withStreamsOf]

theorem writeSpeedToken_eq (t : SpeedToken) (r : BitVec 10) (s : State) :
    writeSpeedToken t r s =
      { s with
        tok := (writeSpeedToken t r s).tok, tokLen := BitVec.ofNat 6 t.text.length,
        freeIdx := s.freeIdx + 1, rv := wrap32 t.value, rg := t.gear,
        rs := BitVec.ofNat 10 t.steps, rd := wrap32 t.diag, rr := r } := by
  rw [writeSpeedToken, writeToken]

theorem raise_state {α : Type} (c : Cause) (info : Int) (s : State) :
    (raise c info s : Flow α).state =
      if s.fault = 0 then withFault c.code (wrap32 info) s else s := rfl

/-! ### What an instruction can do -/

/-- Every instruction but JOBRST begins with the test of FAULT (60_exceptions.md R256). -/
theorem exec_eq_runCommand {i : Instr} (hi : i ≠ .jobrst) :
    ∃ body, ∀ s, exec i s = runCommand body s := by
  cases i with
  | jobrst => exact absurd rfl hi
  | _ => exact ⟨_, fun _ => rfl⟩

/-- The states an instruction can leave behind `s`. Left open are the bytes emitted, the fault taken and
the numbers V2S and S2V compute, not which registers are written. -/
inductive Effect (s : State) : Instr → State → Prop
  | refused {i : Instr} (hi : i ≠ .jobrst) (hf : s.fault ≠ 0) : Effect s i s
  | fault {i : Instr} (hf : s.fault = 0) (c : Cause) (info : Int) :
      Effect s i (withFault c.code (wrap32 info) s)
  | emits {i : Instr} (bs : List Byte) : Effect s i (emitList bs s)
  | nop : Effect s .nop s
  | jobrst : Effect s .jobrst (jobReset s)
  | spdenc {board : BitVec 4} {fgv : BitVec 1} {fgear : BitVec 3} {rstep : BitVec 10}
      {feed ratio : Word32} {bt : Board} (h : spdencFieldsLegal fgv fgear rstep = true) :
      Effect s (.spdenc board fgv fgear rstep feed ratio)
        (writeSpeedToken (speedToken Config.params bt fgv fgear rstep feed ratio) rstep s)
  | spddec {f : TokenFields} (h : parseToken s.tokenText = some f) :
      Effect s .spddec (writeTokenFields f s)
  | v2s {value b m : Word32} (v : Word32) : Effect s (.v2s value b m) { s with rspd := v }
  | s2v {feed b m : Word32} (v : Word32) : Effect s (.s2v feed b m) { s with rv := v }
  | gearsel {raster : BitVec 1} {feed : Word32} :
      Effect s (.gearsel raster feed) { s with rg := gearFor (zext feed) (bit raster) }
  | tokclr : Effect s .tokclr { s with tokLen := 0 }
  | tokput {b : Byte} (h : s.tokLen ≠ 32) : Effect s (.tokput b) (pushToken b s)
  | move {dir : BitVec 3} {laser : BitVec 1} {ax ay : BitVec 2} {n : Word32}
      (h : moveFieldsLegal dir ax ay = true) :
      Effect s (.move dir laser ax ay n) (move dir (sext32 n) laser ax ay s).state
  | flush : Effect s .flush (flush s)
  | line {laser : BitVec 1} {dx dy : Word32} :
      Effect s (.line laser dx dy) (line laser (sext32 dx) (sext32 dy) s).state
  | fclose : Effect s .fclose (closeFrame s)
  | crcclr : Effect s .crcclr { s with rcrc := crcInit }
  | crcupd {b : Byte} : Effect s (.crcupd b) { s with rcrc := crc8Byte s.rcrc b }
  | frame {p : Payload} : Effect s (.frame p) (emitList p.toList (closeFrame s))

theorem effect_raise {i : Instr} {s : State} (hf : s.fault = 0) (c : Cause) (info : Int) :
    Effect s i (raise c info s : Flow Unit).state := by
  rw [raise_state, if_pos hf]
  exact .fault hf c info

theorem effect_of_runCommand {i : Instr} {body : State → Flow Unit} {s t : State}
    (hi : i ≠ .jobrst) (h : runCommand body s = .next t)
    (hbody : s.fault = 0 → Effect s i (body s).state) : Effect s i t := by
  obtain ⟨hf, rfl⟩ | ⟨hf, rfl⟩ := runCommand_cases h
  · exact .refused hi hf
  · exact hbody hf

theorem effect_of_putOutput {i : Instr} {bs : List Byte} {s t : State} (hi : i ≠ .jobrst)
    (h : putOutput bs s = .next t) : Effect s i t :=
  effect_of_runCommand hi h fun _ => .emits bs

theorem effect_of_execSpdenc {board : BitVec 4} {fgv : BitVec 1} {fgear : BitVec 3}
    {rstep : BitVec 10} {feed ratio : Word32} {s t : State}
    (h : execSpdenc board fgv fgear rstep feed ratio s = .next t) :
    Effect s (.spdenc board fgv fgear rstep feed ratio) t := by
  refine effect_of_runCommand nofun h fun hf => ?_
  unfold spdenc
  split
  case h_1 => exact effect_raise hf _ _
  case h_2 =>
    split
    case isTrue hlegal => exact .spdenc hlegal
    case isFalse => exact effect_raise hf _ _

theorem effect_of_execSpddec {s t : State} (h : execSpddec s = .next t) : Effect s .spddec t := by
  refine effect_of_runCommand nofun h fun hf => ?_
  split
  case h_1 f hparse => exact .spddec hparse
  case h_2 => exact effect_raise hf _ _

theorem effect_of_execTokput {b : Byte} {s t : State} (h : execTokput b s = .next t) :
    Effect s (.tokput b) t := by
  refine effect_of_runCommand nofun h fun hf => ?_
  split
  case isTrue => exact effect_raise hf _ _
  case isFalse hfull => exact .tokput hfull

theorem effect_of_execMove {dir : BitVec 3} {laser : BitVec 1} {ax ay : BitVec 2} {n : Word32}
    {s t : State} (h : execMove dir laser ax ay n s = .next t) :
    Effect s (.move dir laser ax ay n) t := by
  refine effect_of_runCommand nofun h fun hf => ?_
  split
  case isTrue hlegal => exact .move hlegal
  case isFalse => exact effect_raise hf _ _

theorem effect_of_execDist {n : Word32} {s t : State} (h : execDist n s = .next t) :
    Effect s (.dist n) t := by
  refine effect_of_runCommand nofun h fun hf => ?_
  split
  case isTrue => exact effect_raise hf _ _
  case isFalse => exact .emits _

/-- All an instruction can do, one case per row of the opcode table. -/
theorem exec_effect {i : Instr} {s t : State} (h : exec i s = .next t) : Effect s i t := by
  unfold exec at h
  cases i with
  | nop => exact effect_of_runCommand nofun h fun _ => .nop
  | jobrst => cases h; exact .jobrst
  | spdenc => exact effect_of_execSpdenc h
  | spddec => exact effect_of_execSpddec h
  | v2s => exact effect_of_runCommand nofun h fun _ => .v2s _
  | s2v => exact effect_of_runCommand nofun h fun _ => .s2v _
  | gearsel => exact effect_of_runCommand nofun h fun _ => .gearsel
  | tokclr => exact effect_of_runCommand nofun h fun _ => .tokclr
  | tokput => exact effect_of_execTokput h
  | tokemit => exact effect_of_runCommand nofun h fun _ => .emits _
  | move => exact effect_of_execMove h
  | flush => exact effect_of_runCommand nofun h fun _ => .flush
  | emit b => exact effect_of_runCommand nofun h fun _ => .emits [b]
  | dist => exact effect_of_execDist h
  | line => exact effect_of_runCommand nofun h fun _ => .line
  | fclose => exact effect_of_runCommand nofun h fun _ => .fclose
  | crcclr => exact effect_of_runCommand nofun h fun _ => .crcclr
  | crcupd => exact effect_of_runCommand nofun h fun _ => .crcupd
  | reserved => exact effect_of_runCommand nofun h fun hf => effect_raise hf _ _
  | frame => exact effect_of_runCommand nofun h fun _ => .frame
  | _ => exact effect_of_putOutput nofun h

/-! ### What a line does, from what its moves do -/

theorem state_bind_of {α β : Type} {P : State → Prop} {x : Flow α} {f : α → State → Flow β}
    (hx : P x.state) (hf : ∀ a t, P t → P (f a t).state) : P (x.bind f).state := by
  cases x with
  | go a t => exact hf a t hx
  | ended t => exact hx

/-- A property of states that a fault and a legal move keep; a line keeps it too (`line_keeps`). -/
structure KeptByMoves (P : State → Prop) : Prop where
  raise : ∀ c info t, P t → P (raise c info t : Flow Unit).state
  move : ∀ dir dist laser ax ay t, moveFieldsLegal dir ax ay = true → P t →
    P (move dir dist laser ax ay t).state

theorem axisCode_eq_one_or_two {d : Int} (h : d ≠ 0) : axisCode d = 1 ∨ axisCode d = 2 := by
  unfold axisCode
  split
  · exact .inl rfl
  · exact .inr (if_pos (by omega))

theorem xDirCode_legal {sx : BitVec 2} (hx : sx = 1 ∨ sx = 2) :
    moveFieldsLegal (xDirCode sx) 0 0 = true := by
  rcases hx with rfl | rfl <;> rfl

theorem yDirCode_legal {sy : BitVec 2} (hy : sy = 1 ∨ sy = 2) :
    moveFieldsLegal (yDirCode sy) 0 0 = true := by
  rcases hy with rfl | rfl <;> rfl

/-- The fields of a line's moves along both axes (42_line_rasterizer.md R180, R185). -/
theorem lineFields_legal {sx sy : BitVec 2} (hx : sx = 1 ∨ sx = 2) (hy : sy = 1 ∨ sy = 2) :
    moveFieldsLegal 5 sx sy = true ∧ moveFieldsLegal (xDirCode sx) sx sy = true ∧
      moveFieldsLegal (yDirCode sy) sx sy = true := by
  rcases hx with rfl | rfl <;> rcases hy with rfl | rfl <;> decide

/-- The fields of a general line's moves are legal (42_line_rasterizer.md R185). -/
def LineDirs.legal (d : LineDirs) : Prop :=
  moveFieldsLegal d.pdir d.sx d.sy = true ∧ moveFieldsLegal 5 d.sx d.sy = true

section
variable {P : State → Prop}

theorem emitRun_keeps (hP : KeptByMoves P) {d : LineDirs} (hd : d.legal) (run : StepKind × Nat)
    (counts : Nat × Nat) {s : State} (hs : P s) : P (emitRun d run counts s).state := by
  obtain ⟨hprimary, hdiagonal⟩ := hd
  unfold emitRun
  split
  · exact state_bind_of (hP.move _ _ _ _ _ _ hprimary hs) fun _ _ ht => ht
  · exact state_bind_of (hP.move _ _ _ _ _ _ hdiagonal hs) fun _ _ ht => ht

theorem emitRuns_keeps (hP : KeptByMoves P) {d : LineDirs} (hd : d.legal)
    (runs : List (StepKind × Nat)) (counts : Nat × Nat) {s : State} (hs : P s) :
    P (emitRuns d runs counts s).state := by
  induction runs generalizing counts s with
  | nil => exact hs
  | cons run runs ih =>
    exact state_bind_of (emitRun_keeps hP hd run counts hs) fun counts _ ht => ih counts ht

theorem generalLine_keeps (hP : KeptByMoves P) (major minor : Nat) {d : LineDirs} (hd : d.legal)
    {s : State} (hs : P s) : P (generalLine major minor d s).state := by
  refine state_bind_of (emitRuns_keeps hP hd _ _ hs) fun counts t ht => ?_
  unfold verifyCounts
  split
  · exact hP.raise _ _ _ ht
  · exact ht

theorem line_keeps (hP : KeptByMoves P) (laser : BitVec 1) (dx dy : Int) {s : State} (hs : P s) :
    P (line laser dx dy s).state := by
  have hx (h : dx.natAbs ≠ 0) := axisCode_eq_one_or_two (d := dx) (by omega)
  have hy (h : dy.natAbs ≠ 0) := axisCode_eq_one_or_two (d := dy) (by omega)
  unfold line
  split
  · exact hP.raise _ _ _ hs
  split
  · exact hP.raise _ _ _ hs
  dsimp only
  split
  · exact hs
  split
  · exact hP.move _ _ _ _ _ _ (xDirCode_legal (hx (by omega))) hs
  split
  · exact hP.move _ _ _ _ _ _ (yDirCode_legal (hy (by omega))) hs
  obtain ⟨hdiag, hxdir, hydir⟩ := lineFields_legal (hx (by omega)) (hy (by omega))
  split
  · exact hP.move _ _ _ _ _ _ hdiag hs
  split
  · exact generalLine_keeps hP _ _ ⟨hxdir, hdiag⟩ hs
  · exact generalLine_keeps hP _ _ ⟨hydir, hdiag⟩ hs

end

end Sys2Proof.Machine
end

section
/-! SUPPORT. What no instruction takes back (spec/10_state.md R23, R31), and JOBRST (45_system.md R236). -/

namespace Sys2Proof.Machine

open Sys2Proof.Claim

/-- `t` can come after `s`: the program is as it was (10_state.md R23), the streams of `s` are the
beginnings of those of `t` (R31), and FCNT is within R29 if it was before. -/
structure Continues (s t : State) : Prop where
  queue_eq : t.queue = s.queue
  history_eq : t.history = s.history
  egv_prefix : s.egv <+: t.egv
  frames_prefix : s.frames <+: t.frames
  fcnt_le : s.fcnt.toNat ≤ 29 → t.fcnt.toNat ≤ 29

theorem Continues.refl (s : State) : Continues s s :=
  ⟨rfl, rfl, List.prefix_refl _, List.prefix_refl _, id⟩

theorem Continues.trans {s t u : State} (h : Continues s t) (h' : Continues t u) : Continues s u :=
  ⟨h'.queue_eq.trans h.queue_eq, h'.history_eq.trans h.history_eq,
    h.egv_prefix.trans h'.egv_prefix, h.frames_prefix.trans h'.frames_prefix,
    h'.fcnt_le ∘ h.fcnt_le⟩

/-- A register write leaves program and streams alone. -/
theorem Continues.of_eq {s t u : State} (h : Continues s t) (hq : u.queue = t.queue)
    (hh : u.history = t.history) (he : u.egv = t.egv) (hf : u.frames = t.frames)
    (hc : u.fcnt = t.fcnt) : Continues s u :=
  ⟨hq.trans h.queue_eq, hh.trans h.history_eq, he ▸ h.egv_prefix, hf ▸ h.frames_prefix,
    hc ▸ h.fcnt_le⟩

theorem Continues.ite {s t : State} {p : Prop} [Decidable p] (h : Continues s t) :
    Continues s (if p then t else s) := by
  split
  · exact h
  · exact .refl s

theorem continues_emitList (bs : List Byte) (s : State) : Continues s (emitList bs s) :=
  ⟨emitList_queue bs s, emitList_history bs s, emitList_egv bs s ▸ List.prefix_append _ _,
    emitList_frames_prefix bs s, emitList_fcnt_le⟩

theorem continues_closeFrame (s : State) : Continues s (closeFrame s) where
  queue_eq := closeFrame_queue s
  history_eq := closeFrame_history s
  egv_prefix := by rw [closeFrame_egv]
  frames_prefix := by
    unfold closeFrame
    split
    · exact List.prefix_refl _
    · simp
  fcnt_le _ := by simp

theorem continues_flush (s : State) : Continues s (flush s) :=
  (continues_emitList s.flushBytes s).of_eq rfl rfl rfl rfl rfl

theorem continues_setLaser (l : BitVec 1) (s : State) : Continues s (setLaser l s) :=
  .ite ((continues_emitList [laserByte l] s).of_eq rfl rfl rfl rfl rfl)

theorem continues_setAx (a : BitVec 2) (s : State) : Continues s (setAx a s) :=
  .ite ((continues_emitList [axByte a] s).of_eq rfl rfl rfl rfl rfl)

theorem continues_setAy (a : BitVec 2) (s : State) : Continues s (setAy a s) :=
  .ite ((continues_emitList [ayByte a] s).of_eq rfl rfl rfl rfl rfl)

theorem continues_startRun (d : BitVec 3) (n : Int) (l : BitVec 1) (x y : BitVec 2) (s : State) :
    Continues s (startRun d n l x y s) := by
  have hmodal : Continues s (setAy y (setAx x (setLaser l (flush s)))) :=
    (continues_flush s).trans <| (continues_setLaser l _).trans <|
      (continues_setAx x _).trans <| continues_setAy y _
  unfold startRun
  exact hmodal.of_eq (latchAxis_queue ..) (latchAxis_history ..) (latchAxis_egv ..)
    (latchAxis_frames ..) (latchAxis_fcnt ..)

theorem continues_withFault (code : BitVec 3) (info : Word32) (s : State) :
    Continues s (withFault code info s) := (Continues.refl s).of_eq rfl rfl rfl rfl rfl

theorem continues_raise {α : Type} (c : Cause) (info : Int) (s : State) :
    Continues s (raise c info s : Flow α).state :=
  .ite (continues_withFault _ _ s)

theorem continues_move (dir : BitVec 3) (dist : Int) (laser : BitVec 1) (ax ay : BitVec 2)
    (s : State) : Continues s (move dir dist laser ax ay s).state := by
  obtain ⟨h, -⟩ | ⟨h, -⟩ | ⟨h, -⟩ := move_cases dir dist laser ax ay s <;> rw [h]
  · exact continues_raise _ _ s
  · exact (Continues.refl s).of_eq rfl rfl rfl rfl rfl
  · exact continues_startRun _ _ _ _ _ s

theorem keptByMoves_continues (s : State) : KeptByMoves (Continues s) where
  raise _ _ t h := h.trans (continues_raise _ _ t)
  move _ _ _ _ _ t _ h := h.trans (continues_move _ _ _ _ _ t)

/-- No instruction changes the program or takes back what it has emitted. -/
theorem exec_continues {i : Instr} {s t : State} (h : exec i s = .next t) : Continues s t := by
  cases exec_effect h with
  | refused | nop => exact .refl s
  | fault => exact continues_withFault _ _ s
  | emits bs => exact continues_emitList bs s
  | jobrst => exact ⟨rfl, rfl, List.prefix_refl _, List.prefix_refl _, fun _ => by simp⟩
  | spdenc => exact (Continues.refl s).of_eq (by simp) (by simp) (by simp) (by simp) (by simp)
  | move => exact continues_move _ _ _ _ _ s
  | flush => exact continues_flush s
  | line => exact line_keeps (keptByMoves_continues s) _ _ _ (.refl s)
  | fclose => exact continues_closeFrame s
  | @frame p => exact (continues_closeFrame s).trans (continues_emitList p.toList _)
  | spddec | v2s | s2v | gearsel | tokclr | tokput | crcclr | crcupd =>
    exact (Continues.refl s).of_eq rfl rfl rfl rfl rfl

theorem exec_exists_next (i : Instr) (s : State) : ∃ t, exec i s = .next t := by
  by_cases hi : i = .jobrst
  · exact ⟨jobReset s, by rw [hi]; rfl⟩
  · obtain ⟨body, hbody⟩ := exec_eq_runCommand hi
    exact ⟨_, hbody s⟩

/-- Settles O8: every instruction is a command body behind the test of FAULT or the job reset, and
what it leaves continues the state before. -/
theorem everyCommandCompletesAndLeavesTheProgram :
    Obligations.EveryCommandCompletesAndLeavesTheProgram := by
  intro i s
  obtain ⟨t, ht⟩ := exec_exists_next i s
  exact ⟨t, ht, (exec_continues ht).queue_eq, (exec_continues ht).history_eq⟩

/-- Settles O18. -/
theorem streamsOnlyGrow : Obligations.StreamsOnlyGrow :=
  fun _ _ _ h => ⟨(exec_continues h).egv_prefix, (exec_continues h).frames_prefix⟩

/-! ### JOBRST -/

theorem exec_of_faulted {i : Instr} {s : State} (hi : i ≠ .jobrst) (hf : s.fault ≠ 0) :
    exec i s = .next s := by
  obtain ⟨body, hbody⟩ := exec_eq_runCommand hi
  rw [hbody s, runCommand_of_faulted hf]

/-- Settles O22: JOBRST is the job reset, and every other instruction begins with the test of
FAULT. -/
theorem jobResetClearsTheJobState : Obligations.JobResetClearsTheJobState := by
  refine ⟨fun w hop => ?_, fun _ => rfl, fun _ _ => exec_of_faulted⟩
  rw [decode, hop]
  rfl

end Sys2Proof.Machine
end

section
/-! SUPPORT. Which instructions write which registers (spec/10_state.md R34). -/

namespace Sys2Proof.Machine

open Sys2Proof.Claim

/-- The result registers, the token and RCRC are as they were (10_state.md R22, R28, R30). -/
structure CodecKept (s t : State) : Prop where
  rv_eq : t.rv = s.rv
  rg_eq : t.rg = s.rg
  rs_eq : t.rs = s.rs
  rd_eq : t.rd = s.rd
  rr_eq : t.rr = s.rr
  rspd_eq : t.rspd = s.rspd
  tok_eq : t.tok = s.tok
  tokLen_eq : t.tokLen = s.tokLen
  rcrc_eq : t.rcrc = s.rcrc

theorem codecKept_raise {α : Type} (c : Cause) (info : Int) (s : State) :
    CodecKept s (raise c info s : Flow α).state := by
  rw [raise_state]
  split <;> exact ⟨rfl, rfl, rfl, rfl, rfl, rfl, rfl, rfl, rfl⟩

theorem codecKept_move (dir : BitVec 3) (dist : Int) (laser : BitVec 1) (ax ay : BitVec 2)
    (s : State) : CodecKept s (move dir dist laser ax ay s).state := by
  obtain ⟨h, -⟩ | ⟨h, -⟩ | ⟨h, -⟩ := move_cases dir dist laser ax ay s <;> rw [h]
  · exact codecKept_raise _ _ s
  · exact ⟨rfl, rfl, rfl, rfl, rfl, rfl, rfl, rfl, rfl⟩
  · constructor <;> simp

theorem CodecKept.trans {s t u : State} (h : CodecKept s t) (h' : CodecKept t u) :
    CodecKept s u := by
  cases h
  cases h'
  constructor <;> simp only [*]

theorem keptByMoves_codecKept (s : State) : KeptByMoves (CodecKept s) where
  raise _ _ t h := h.trans (codecKept_raise _ _ t)
  move _ _ _ _ _ t _ h := h.trans (codecKept_move _ _ _ _ _ t)

theorem codecKept_line (laser : BitVec 1) (dx dy : Int) (s : State) :
    CodecKept s (line laser dx dy s).state :=
  line_keeps (keptByMoves_codecKept s) _ _ _ ⟨rfl, rfl, rfl, rfl, rfl, rfl, rfl, rfl, rfl⟩

theorem CodecKept.results {p q : Prop} {s t : State} (h : CodecKept s t) :
    t.rs = s.rs ∧ t.rd = s.rd ∧ t.rr = s.rr ∧ (p → t.rv = s.rv) ∧ (q → t.rg = s.rg) :=
  ⟨h.rs_eq, h.rd_eq, h.rr_eq, fun _ => h.rv_eq, fun _ => h.rg_eq⟩

/-- MDIR, MLASER, MAX, MAY are written by MOVE and LINE only, MDIST also by FLUSH. -/
theorem exec_motion_kept {i : Instr} {s t : State} (h : exec i s = .next t) (hi : i ≠ .jobrst)
    (hmove : ∀ d l x y n, i ≠ .move d l x y n) (hline : ∀ l dx dy, i ≠ .line l dx dy) :
    t.mDir = s.mDir ∧ t.mLaser = s.mLaser ∧ t.mAx = s.mAx ∧ t.mAy = s.mAy ∧
      (i ≠ .flush → t.mDist = s.mDist) := by
  cases exec_effect h with
  | jobrst => exact absurd rfl hi
  | move => exact absurd rfl (hmove _ _ _ _ _)
  | line => exact absurd rfl (hline _ _ _)
  | flush => simp
  | fault => simp [withFault]
  | _ => simp

/-- RS, RD, RR are written by SPDENC and SPDDEC only, RV also by S2V, RG also by GEARSEL. -/
theorem exec_results_kept {i : Instr} {s t : State} (h : exec i s = .next t) (hi : i ≠ .jobrst)
    (henc : ∀ b v g r f q, i ≠ .spdenc b v g r f q) (hdec : i ≠ .spddec) :
    t.rs = s.rs ∧ t.rd = s.rd ∧ t.rr = s.rr ∧
      ((∀ f b m, i ≠ .s2v f b m) → t.rv = s.rv) ∧ ((∀ r f, i ≠ .gearsel r f) → t.rg = s.rg) := by
  cases exec_effect h with
  | jobrst => exact absurd rfl hi
  | spdenc => exact absurd rfl (henc _ _ _ _ _ _)
  | spddec => exact absurd rfl hdec
  | s2v => exact ⟨rfl, rfl, rfl, fun hs2v => absurd rfl (hs2v _ _ _), fun _ => rfl⟩
  | gearsel => exact ⟨rfl, rfl, rfl, fun _ => rfl, fun hgear => absurd rfl (hgear _ _)⟩
  | move => exact (codecKept_move _ _ _ _ _ s).results
  | line => exact (codecKept_line _ _ _ s).results
  | fault => simp [withFault]
  | _ => simp

/-- RSPD is written by V2S only. -/
theorem exec_rspd_kept {i : Instr} {s t : State} (h : exec i s = .next t) (hi : i ≠ .jobrst)
    (hv2s : ∀ v b m, i ≠ .v2s v b m) : t.rspd = s.rspd := by
  cases exec_effect h with
  | jobrst => exact absurd rfl hi
  | v2s => exact absurd rfl (hv2s _ _ _)
  | move => exact (codecKept_move _ _ _ _ _ s).rspd_eq
  | line => exact (codecKept_line _ _ _ s).rspd_eq
  | fault => simp [withFault]
  | _ => simp

/-- TOK is written by SPDENC and TOKPUT only, TOKLEN also by TOKCLR. -/
theorem exec_token_kept {i : Instr} {s t : State} (h : exec i s = .next t) (hi : i ≠ .jobrst)
    (henc : ∀ b v g r f q, i ≠ .spdenc b v g r f q) (hput : ∀ b, i ≠ .tokput b) :
    t.tok = s.tok ∧ (i ≠ .tokclr → t.tokLen = s.tokLen) := by
  cases exec_effect h with
  | jobrst => exact absurd rfl hi
  | spdenc => exact absurd rfl (henc _ _ _ _ _ _)
  | tokput => exact absurd rfl (hput _)
  | tokclr => exact ⟨rfl, fun hclr => absurd rfl hclr⟩
  | move =>
    exact ⟨(codecKept_move _ _ _ _ _ s).tok_eq, fun _ => (codecKept_move _ _ _ _ _ s).tokLen_eq⟩
  | line => exact ⟨(codecKept_line _ _ _ s).tok_eq, fun _ => (codecKept_line _ _ _ s).tokLen_eq⟩
  | fault => simp [withFault]
  | _ => simp

/-- RCRC is written by CRCCLR and CRCUPD only. -/
theorem exec_rcrc_kept {i : Instr} {s t : State} (h : exec i s = .next t) (hi : i ≠ .jobrst)
    (hclr : i ≠ .crcclr) (hupd : ∀ b, i ≠ .crcupd b) : t.rcrc = s.rcrc := by
  cases exec_effect h with
  | jobrst => exact absurd rfl hi
  | crcclr => exact absurd rfl hclr
  | crcupd => exact absurd rfl (hupd _)
  | move => exact (codecKept_move _ _ _ _ _ s).rcrc_eq
  | line => exact (codecKept_line _ _ _ s).rcrc_eq
  | fault => simp [withFault]
  | _ => simp

/-- Settles O20, one lemma for each group of registers. -/
theorem registersAreWrittenOnlyByTheirCommands :
    Obligations.RegistersAreWrittenOnlyByTheirCommands :=
  fun _ _ _ h hi => ⟨exec_motion_kept h hi, exec_results_kept h hi, exec_rspd_kept h hi,
    exec_token_kept h hi, exec_rcrc_kept h hi⟩

end Sys2Proof.Machine
end

section
/-! SUPPORT. Lengths and ranges of what the codec computes (spec/40_speed_codec.md R110 to R130). -/

namespace Sys2Proof.Machine

open Sys2Proof.Claim

theorem length_dec3_le {n k : Nat} (hk : 3 ≤ k) (hn : n < 10 ^ k) : (dec3 n).length ≤ k := by
  rw [length_dec3]
  exact max_le hk ((Nat.digits_length_le_iff (by decide) n).mpr hn)

/-- A value field has at most eight and three digits (30_encoding.md R89). -/
theorem length_encodeValue_le (v : Int) : (encodeValue v).length ≤ 11 := by
  have hhi : (dec3 (valueHi v)).length ≤ 8 := length_dec3_le (by decide) (by unfold valueHi; omega)
  have hlo : (dec3 (valueLo v)).length ≤ 3 := length_dec3_le (by decide) (by unfold valueLo; omega)
  rw [encodeValue, List.length_append]
  omega

theorem length_dec1 (n : Nat) : (dec1 n).length = 1 := rfl

theorem length_tokenVectorBytes_le (v : Int) (gear : Nat) :
    (tokenVectorBytes v gear).length ≤ 14 := by
  have hv := length_encodeValue_le v
  simp only [tokenVectorBytes, List.length_cons, List.length_append, length_dec1]
  omega

theorem length_tokenDiagonalBytes_le (v : Int) (gear : Nat) {steps : Nat} (d : Int)
    (hs : steps < 1000) : (tokenDiagonalBytes v gear steps d).length ≤ 28 := by
  have hv := length_tokenVectorBytes_le v gear
  have hd := length_encodeValue_le d
  simp only [tokenDiagonalBytes, List.length_append, length_dec3_of_lt_thousand hs]
  omega

theorem length_tokenRasterBytes_le (v : Int) (gear : Nat) {rstep : Nat} (hr : rstep < 1000) :
    (tokenRasterBytes v gear rstep).length ≤ 17 := by
  have hv := length_encodeValue_le v
  simp only [tokenRasterBytes, List.length_cons, List.length_append, length_dec1,
    length_dec3_of_lt_thousand hr]
  omega

theorem gearFor_le (feed : Nat) (raster : Bool) : gearFor feed raster ≤ 4 := by
  unfold gearFor
  split_ifs <;> decide

theorem stepCount_le (feed : Nat) : stepCount feed ≤ 128 := Nat.min_le_right _ _

theorem spdencFieldsLegal_iff (fgv : BitVec 1) (fgear : BitVec 3) (rstep : BitVec 10) :
    spdencFieldsLegal fgv fgear rstep = true ↔ (fgv = 1 → fgear ≤ 4) ∧ rstep ≤ 999 := by
  rw [spdencFieldsLegal, decide_eq_true_iff]

section
variable (c : Params) (bt : Board) (fgv : BitVec 1) (fgear : BitVec 3) (rstep : BitVec 10)
  (feed ratio : Word32)

/-- SPDENC's token is one of the three forms of 30_encoding.md R90 to R92. -/
theorem speedToken_forms (hg : fgv = 1 → fgear ≤ 4) :
    ∃ (v d : Int) (gear : BitVec 3) (steps : Nat), gear ≤ 4 ∧ steps ≤ 128 ∧
      (speedToken c bt fgv fgear rstep feed ratio =
          ⟨tokenRasterBytes v gear.toNat rstep.toNat, v, gear, 0, 0⟩ ∨
        speedToken c bt fgv fgear rstep feed ratio =
          ⟨tokenDiagonalBytes v gear.toNat steps d, v, gear, steps, d⟩ ∨
        speedToken c bt fgv fgear rstep feed ratio =
          ⟨tokenVectorBytes v gear.toNat, v, gear, 0, 0⟩) := by
  have hgear (f : Nat) (r : Bool) : (if bit fgv then fgear else gearFor f r) ≤ 4 := by
    split
    case isTrue h => exact hg (by simpa [bit] using h)
    case isFalse => exact gearFor_le f r
  by_cases hr : decide (rstep ≠ 0) = true
  · exact ⟨_, 0, _, 0, hgear _ _, Nat.zero_le _, .inl (if_pos hr)⟩
  by_cases hd : 0 < zext ratio ∧ bt.noDiag = false
  · exact ⟨_, _, _, _, hgear _ _, stepCount_le _, .inr (.inl ((if_neg hr).trans (if_pos hd)))⟩
  · exact ⟨_, 0, _, 0, hgear _ _, Nat.zero_le _, .inr (.inr ((if_neg hr).trans (if_neg hd)))⟩

/-- What SPDENC computes fits RG, RS and TOK (10_state.md R22, R28). -/
theorem speedToken_bounds (hg : fgv = 1 → fgear ≤ 4) (hr : rstep ≤ 999) :
    (speedToken c bt fgv fgear rstep feed ratio).gear ≤ 4 ∧
      (speedToken c bt fgv fgear rstep feed ratio).steps ≤ 128 ∧
      (speedToken c bt fgv fgear rstep feed ratio).text.length ≤ 32 := by
  obtain ⟨v, d, gear, steps, hgear, hsteps, h | h | h⟩ :=
    speedToken_forms c bt fgv fgear rstep feed ratio hg <;> rw [h]
  · have hlen := length_tokenRasterBytes_le v gear.toNat (Nat.lt_succ_of_le hr)
    exact ⟨hgear, Nat.zero_le _, hlen.trans (by decide)⟩
  · have hlen := length_tokenDiagonalBytes_le v gear.toNat d (steps := steps) (by omega)
    exact ⟨hgear, hsteps, hlen.trans (by decide)⟩
  · exact ⟨hgear, Nat.zero_le _, (length_tokenVectorBytes_le v gear.toNat).trans (by decide)⟩

end

theorem num_lt {ds : List Byte} (h : ds.all isDigit = true) : num ds < 10 ^ ds.length := by
  have hdigit : ∀ d ∈ (ds.map fun b => b.toNat - 0x30).reverse, d < 10 := by
    intro d hd
    obtain ⟨b, hb, rfl⟩ := List.mem_map.mp (List.mem_reverse.mp hd)
    have hb' : isDigit b = true := List.all_eq_true.mp h b hb
    rw [isDigit, decide_eq_true_iff] at hb'
    omega
  simpa [num] using Nat.ofDigits_lt_base_pow_length (by decide : 1 < 10) hdigit

theorem num_lt_thousand {ds : List Byte} (h : ds.all isDigit = true) (hlen : ds.length ≤ 3) :
    num ds < 1000 :=
  (num_lt h).trans_le (Nat.pow_le_pow_right (by decide) hlen)

theorem all_isDigit_take_drop {ds : List Byte} (h : ds.all isDigit = true) (i j : Nat) :
    ((ds.drop i).take j).all isDigit = true := by
  rw [List.all_eq_true] at h ⊢
  exact fun b hb => h b (List.mem_of_mem_drop (List.mem_of_mem_take hb))

/-- What SPDDEC finds in a token fits RG, RS and RR (40_speed_codec.md R125, R128). -/
theorem parseBody_bounds {ds : List Byte} {suffix : Option (List Byte)} {f : TokenFields}
    (h : parseBody ds suffix = some f) : f.gear ≤ 4 ∧ f.step < 1000 ∧ f.rstep < 1000 := by
  unfold parseBody at h
  split at h
  case isFalse => cases h
  case isTrue hdigits =>
    obtain ⟨⟨l1, l2⟩, -, h⟩ := Option.bind_eq_some_iff.mp h
    obtain ⟨value, -, h⟩ := Option.bind_eq_some_iff.mp h
    dsimp only at h
    split at h
    case isTrue => cases h
    case isFalse hgear =>
      have hgear : num ((ds.drop l1).take 1) ≤ 4 := by omega
      split at h
      case h_1 r =>
        split at h
        case isTrue hr =>
          obtain ⟨hlen, hall⟩ := hr
          cases h
          exact ⟨hgear, Nat.succ_pos _, num_lt_thousand hall hlen.le⟩
        case isFalse => cases h
      case h_2 =>
        split at h
        case isTrue =>
          cases h
          exact ⟨hgear, Nat.succ_pos _, Nat.succ_pos _⟩
        case isFalse =>
          obtain ⟨diag, -, h⟩ := Option.bind_eq_some_iff.mp h
          cases h
          exact ⟨hgear, num_lt_thousand (all_isDigit_take_drop hdigits _ _)
            (List.length_take_le 3 _), Nat.succ_pos _⟩

theorem parseToken_bounds {bs : List Byte} {f : TokenFields} (h : parseToken bs = some f) :
    f.gear ≤ 4 ∧ f.step < 1000 ∧ f.rstep < 1000 := by
  unfold parseToken at h
  split at h
  case h_1 => cases h
  case h_2 =>
    split at h
    case isFalse => cases h
    case isTrue =>
      dsimp only at h
      split at h
      case isTrue => exact parseBody_bounds h
      case isFalse => exact parseBody_bounds h

end Sys2Proof.Machine
end

section
/-! SUPPORT. Legal states stay legal (spec/10_state.md R21, R22, R25, R26, R28, R29). -/

namespace Sys2Proof.Machine

open Sys2Proof.Claim

/-- `State.legal` by register. -/
structure Legal (s : State) : Prop where
  mDir_le : s.mDir ≤ 5
  mAx_le : s.mAx ≤ 2
  mAy_le : s.mAy ≤ 2
  run_has_direction : s.mDist ≠ 0 → s.mDir ≠ 0
  rg_le : s.rg ≤ 4
  rs_le : s.rs ≤ 999
  rr_le : s.rr ≤ 999
  fault_le : s.fault ≤ 4
  finfo_clear : s.fault = 0 → s.finfo = 0
  tokLen_le : s.tokLen ≤ 32
  fcnt_le : s.fcnt ≤ 29

theorem legal_iff (s : State) : s.legal = true ↔ Legal s := by
  rw [State.legal, decide_eq_true_iff]
  exact ⟨fun ⟨h1, h2, h3, h4, h5, h6, h7, h8, h9, h10, h11⟩ =>
      ⟨h1, h2, h3, h4, h5, h6, h7, h8, h9, h10, h11⟩,
    fun ⟨h1, h2, h3, h4, h5, h6, h7, h8, h9, h10, h11⟩ =>
      ⟨h1, h2, h3, h4, h5, h6, h7, h8, h9, h10, h11⟩⟩

theorem legal_reset : Legal State.reset := (legal_iff _).mp (by decide)

theorem Cause.code_le (c : Cause) : c.code ≤ 4 := by cases c <;> decide

section
variable {s : State}

/-- Emission touches the streams and the framer only, so FCNT is all there is to see. -/
theorem Legal.withStreamsOf {t : State} (h : Legal s) (ht : Continues s t) :
    Legal (withStreamsOf t s) := { h with fcnt_le := ht.fcnt_le h.fcnt_le }

theorem Legal.emitList (h : Legal s) (bs : List Byte) : Legal (emitList bs s) := by
  rw [emitList_eq_withStreamsOf]
  exact h.withStreamsOf (continues_emitList bs s)

theorem Legal.closeFrame (h : Legal s) : Legal (closeFrame s) := by
  rw [closeFrame_eq_withStreamsOf]
  exact h.withStreamsOf (continues_closeFrame s)

theorem Legal.flush (h : Legal s) : Legal (flush s) := by
  rw [flush_eq_withStreamsOf]
  exact { h.withStreamsOf (continues_flush s) with run_has_direction := fun h0 => absurd rfl h0 }

theorem Legal.withFault (h : Legal s) (c : Cause) (info : Word32) :
    Legal (withFault c.code info s) :=
  { h with
    fault_le := c.code_le
    finfo_clear := fun h0 => absurd h0 c.code_ne_zero }

theorem Legal.raise {α : Type} (h : Legal s) (c : Cause) (info : Int) :
    Legal (raise c info s : Flow α).state := by
  rw [raise_state]
  split
  · exact h.withFault c _
  · exact h

theorem legal_jobReset (s : State) : Legal (jobReset s) := { legal_reset with }

/-! ### The motion encoder -/

theorem moveFieldsLegal_iff (dir : BitVec 3) (ax ay : BitVec 2) :
    moveFieldsLegal dir ax ay = true ↔ dir ≠ 0 ∧ dir ≤ 5 ∧ ax ≠ 3 ∧ ay ≠ 3 := by
  rw [moveFieldsLegal, decide_eq_true_iff]

theorem keepOr_le {operand modal : BitVec 2} (ho : operand ≠ 3) (hm : modal ≤ 2) :
    keepOr operand modal ≤ 2 := by
  unfold keepOr
  split
  · exact hm
  · bv_omega

/-- The sub-direction a new run leaves, its own axis latched (41_motion_encoder.md R154). -/
theorem latched_le {p q : Prop} [Decidable p] [Decidable q] {a : BitVec 2} (ha : a ≤ 2) :
    (if p then 1 else if q then 2 else a) ≤ 2 := by
  split
  · decide
  split
  · decide
  · exact ha

theorem Legal.startRun (h : Legal s) {d : BitVec 3} {x y : BitVec 2} (hd0 : d ≠ 0) (hd : d ≤ 5)
    (hx : x ≤ 2) (hy : y ≤ 2) (n : Int) (l : BitVec 1) : Legal (startRun d n l x y s) := by
  rw [startRun_eq_withStreamsOf]
  exact { h.withStreamsOf (continues_startRun d n l x y s) with
    mDir_le := hd
    run_has_direction := fun _ => hd0
    mAx_le := latched_le hx
    mAy_le := latched_le hy }

theorem Legal.move (h : Legal s) {dir : BitVec 3} {ax ay : BitVec 2}
    (hlegal : moveFieldsLegal dir ax ay = true) (dist : Int) (laser : BitVec 1) :
    Legal (move dir dist laser ax ay s).state := by
  obtain ⟨hdir0, hdir, hax, hay⟩ := (moveFieldsLegal_iff dir ax ay).mp hlegal
  obtain ⟨hm, -⟩ | ⟨hm, -, -, hsame, -⟩ | ⟨hm, -⟩ := move_cases dir dist laser ax ay s <;> rw [hm]
  · exact h.raise _ _
  · exact { h with run_has_direction := fun _ => hsame ▸ hdir0 }
  · exact h.startRun hdir0 hdir (keepOr_le hax h.mAx_le) (keepOr_le hay h.mAy_le) _ _

theorem keptByMoves_legal : KeptByMoves Legal where
  raise c info _ h := h.raise c info
  move _ dist laser _ _ _ hlegal h := h.move hlegal dist laser

/-! ### The codec -/

theorem Legal.writeSpeedToken (h : Legal s) {t : SpeedToken} {rstep : BitVec 10}
    (hgear : t.gear ≤ 4) (hsteps : t.steps ≤ 128) (hlen : t.text.length ≤ 32)
    (hrstep : rstep ≤ 999) : Legal (writeSpeedToken t rstep s) := by
  rw [writeSpeedToken_eq]
  exact { h with
    rg_le := hgear
    rs_le := by dsimp only; bv_omega
    rr_le := hrstep
    tokLen_le := by dsimp only; bv_omega }

theorem Legal.spdenc (h : Legal s) {fgv : BitVec 1} {fgear : BitVec 3} {rstep : BitVec 10}
    (hlegal : spdencFieldsLegal fgv fgear rstep = true) (c : Params) (bt : Board)
    (feed ratio : Word32) :
    Legal (Machine.writeSpeedToken (speedToken c bt fgv fgear rstep feed ratio) rstep s) := by
  obtain ⟨hfg, hrstep⟩ := (spdencFieldsLegal_iff fgv fgear rstep).mp hlegal
  obtain ⟨hgear, hsteps, hlen⟩ := speedToken_bounds c bt fgv fgear rstep feed ratio hfg hrstep
  exact h.writeSpeedToken hgear hsteps hlen hrstep

theorem Legal.writeTokenFields (h : Legal s) {f : TokenFields} {bs : List Byte}
    (hf : parseToken bs = some f) : Legal (writeTokenFields f s) := by
  obtain ⟨hgear, hstep, hrstep⟩ := parseToken_bounds hf
  exact { h with
    rg_le := by simp only [Machine.writeTokenFields]; bv_omega
    rs_le := by simp only [Machine.writeTokenFields]; bv_omega
    rr_le := by simp only [Machine.writeTokenFields]; bv_omega }

theorem Legal.pushToken (h : Legal s) (hfull : s.tokLen ≠ 32) (b : Byte) :
    Legal (pushToken b s) :=
  have hle := h.tokLen_le
  { h with tokLen_le := by rw [pushToken_tokLen]; bv_omega }

/-! ### All instructions -/

/-- Every instruction keeps the registers legal, the output rows as well as the commands. -/
theorem Legal.exec {i : Instr} {t : State} (h : Legal s) (hexec : exec i s = .next t) : Legal t := by
  cases exec_effect hexec with
  | refused | nop => exact h
  | fault _ c info => exact h.withFault c _
  | emits bs => exact h.emitList bs
  | jobrst => exact legal_jobReset s
  | spdenc hlegal => exact h.spdenc hlegal _ _ _ _
  | spddec hparse => exact h.writeTokenFields hparse
  | gearsel => exact { h with rg_le := gearFor_le _ _ }
  | tokclr => exact { h with tokLen_le := (by decide : 0#6 ≤ 32) }
  | tokput hfull => exact h.pushToken hfull _
  | move hlegal => exact h.move hlegal _ _
  | flush => exact h.flush
  | line => exact line_keeps keptByMoves_legal _ _ _ h
  | fclose => exact h.closeFrame
  | frame => exact h.closeFrame.emitList _
  | v2s | s2v | crcclr | crcupd => exact { h with }

end

theorem Legal.step {s t : State} (h : Legal s) (hstep : step s = .next t) : Legal t := by
  unfold Machine.step at hstep
  split at hstep
  · cases hstep
    exact h
  · have hconsume : Legal s.consume := { h with }
    exact hconsume.exec hstep

/-- Settles O16: taking the word touches no register, and every instruction keeps them legal. -/
theorem legalStateIsKept : Obligations.LegalStateIsKept :=
  fun s t hs hstep => (legal_iff t).mpr (((legal_iff s).mp hs).step hstep)

/-- Settles O15. -/
theorem resetValuesAreLegal : Obligations.ResetValuesAreLegal :=
  ⟨rfl, rfl, rfl, rfl, rfl, rfl, rfl, rfl, rfl, rfl, rfl, rfl, rfl, rfl, rfl, rfl, rfl, rfl,
    (legal_iff _).mpr legal_reset, rfl⟩

end Sys2Proof.Machine
end

section
/-! SUPPORT. The streams and the framer: the bytes the framer has taken (spec/20_memory.md R55 to
R57), the frames it has built (30_encoding.md R95), and that every instruction reaches `S` and `F` by
`Emit`, by closing the frame (44_crc8_framer.md R220) or not at all (`exec_emits`). -/

namespace Sys2Proof.Machine

open Sys2Proof.Claim

/-! ### The bytes the framer has taken -/

theorem length_payloadOf (f : Frame) : (payloadOf f).length = 30 := by simp [payloadOf]

theorem length_flatMap_payloadOf (fs : List Frame) :
    (fs.flatMap payloadOf).length = 30 * fs.length := by
  induction fs with
  | nil => rfl
  | cons f fs ih =>
    rw [List.flatMap_cons, List.length_append, length_payloadOf, ih, List.length_cons]
    omega

theorem length_framed {s : State} (h : s.fcnt.toNat ≤ 29) :
    s.framed.length = 30 * s.frames.length + s.fcnt.toNat := by
  rw [State.framed, List.length_append, length_flatMap_payloadOf, List.length_take,
    Vector.length_toList, min_eq_left (by omega)]

theorem framed_of_fcnt_zero {s : State} (h : s.fcnt = 0) :
    s.framed = s.frames.flatMap payloadOf := by simp [State.framed, h]

/-- One frame for every 30 bytes completed: the framer holds 30 bytes for each frame and FCNT more,
and emission adds one byte for each byte emitted. -/
theorem length_frames_emitList (bs : List Byte) {s : State} (h : s.fcnt.toNat ≤ 29) :
    (emitList bs s).frames.length = s.frames.length + (s.fcnt.toNat + bs.length) / 30 := by
  have hlen := congrArg List.length (emitList_framed (bs := bs) h)
  have hcnt := emitList_fcnt_le (bs := bs) h
  rw [length_framed hcnt, List.length_append, length_framed h] at hlen
  omega

/-- Settles O38; the count of frames follows from the bytes the framer has taken. -/
theorem emitListFeedsStreamAndFramer : Obligations.EmitListFeedsStreamAndFramer :=
  fun bs s => ⟨emitList_egv bs s, emitList_eq_withStreamsOf bs s, fun h =>
    ⟨emitList_framed h, emitList_fcnt_le h, length_frames_emitList bs h⟩⟩

/-! ### Closing the frame -/

/-- The padded payload: the bytes taken so far, then FILLER (44_crc8_framer.md R220). -/
theorem padFrame_fbuf_toList (s : State) :
    (padFrame s).fbuf.toList =
      s.fbuf.toList.take s.fcnt.toNat ++ List.replicate (30 - s.fcnt.toNat) filler := by
  refine List.ext_getElem (by simp; omega) fun i hi _ => ?_
  by_cases h : i < s.fcnt.toNat
  · rw [List.getElem_append_left (by simp_all)]
    simp [padFrame, h]
  · rw [List.getElem_append_right (by simp; omega)]
    simp [padFrame, h]

/-- Closing the frame adds FILLER to the bytes the framer has taken, and nothing else. -/
theorem closeFrame_framed {s : State} (h : s.fcnt.toNat ≤ 29) :
    ∃ k ≤ 29, (closeFrame s).framed = s.framed ++ List.replicate k filler := by
  by_cases h0 : s.fcnt = 0
  · exact ⟨0, by decide, by simp [closeFrame, h0]⟩
  · refine ⟨30 - s.fcnt.toNat, by bv_omega, ?_⟩
    rw [framed_of_fcnt_zero (closeFrame_fcnt s), closeFrame, if_neg h0, emitFrame_frames,
      padFrame_frames, List.flatMap_append, List.flatMap_singleton, payloadOf_frameOf,
      padFrame_fbuf_toList, State.framed, List.append_assoc]

/-! ### Frames of the wire format -/

/-- What `Frame(p)` builds is of the wire format (30_encoding.md R95, 44_crc8_framer.md R221). -/
theorem frameSound_frameOf (p : Payload) : frameSound (frameOf p) = true := by
  have hlist := frameOf_toList p
  have hcrc : ((frameOf p).toList.drop 1).take 31 = 0x00 :: p.toList := by
    rw [hlist]
    exact List.take_left' (l₁ := 0x00 :: p.toList) (by simp)
  have hbyte (i : Nat) (hi : i < 34) : (frameOf p)[i] =
      ([0xA6, 0x00] ++ p.toList ++ [0xA6, crc8 (0x00 :: p.toList)])[i]'(by simp; omega) := by
    simp only [← hlist, Vector.getElem_toList]
  rw [frameSound, decide_eq_true_iff, hcrc]
  simp [hbyte]

theorem framesSound_emitFrame {s : State} (h : s.framesSound = true) :
    (emitFrame s).framesSound = true := by
  rw [State.framesSound, emitFrame_frames, List.all_append, ← State.framesSound, h,
    List.all_cons, frameSound_frameOf]
  rfl

theorem framesSound_emit {s : State} (h : s.framesSound = true) (b : Byte) :
    (emit b s).framesSound = true := by
  have happend : (appendByte b s).framesSound = true := h
  unfold emit
  dsimp only
  split
  · exact framesSound_emitFrame happend
  · exact happend

theorem framesSound_emitList {s : State} (h : s.framesSound = true) (bs : List Byte) :
    (emitList bs s).framesSound = true := by
  induction bs generalizing s with
  | nil => exact h
  | cons b bs ih => exact ih (framesSound_emit h b)

theorem framesSound_closeFrame {s : State} (h : s.framesSound = true) :
    (closeFrame s).framesSound = true := by
  unfold closeFrame
  split
  · exact h
  · have hpad : (padFrame s).framesSound = true := by rwa [State.framesSound, padFrame_frames]
    exact framesSound_emitFrame hpad

/-! ### Emission as the only way into the streams -/

/-- The streams and the framer of `t` are those that `Emit` of a list leaves behind `s`. -/
def Emits (s t : State) : Prop := ∃ bs, withStreamsOf t s = emitList bs s

theorem emit_withStreamsOf (b : Byte) (t s : State) :
    emit b (withStreamsOf t s) = withStreamsOf (emit b t) s := by
  have hcnt : (appendByte b (withStreamsOf t s)).fcnt = (appendByte b t).fcnt := rfl
  simp only [emit, hcnt]
  split <;> rfl

theorem emitList_withStreamsOf (bs : List Byte) (t s : State) :
    emitList bs (withStreamsOf t s) = withStreamsOf (emitList bs t) s := by
  induction bs generalizing t with
  | nil => rfl
  | cons b bs ih => rw [emitList_cons, emit_withStreamsOf, ih, emitList_cons]

theorem Emits.refl (s : State) : Emits s s := ⟨[], rfl⟩

theorem emits_emitList (bs : List Byte) (s : State) : Emits s (emitList bs s) :=
  ⟨bs, (emitList_eq_withStreamsOf bs s).symm⟩

theorem Emits.trans {s t u : State} (h : Emits s t) (h' : Emits t u) : Emits s u := by
  obtain ⟨as, has⟩ := h
  obtain ⟨bs, hbs⟩ := h'
  refine ⟨as ++ bs, ?_⟩
  calc withStreamsOf u s = withStreamsOf (withStreamsOf u t) s := rfl
    _ = emitList bs (withStreamsOf t s) := by rw [hbs, emitList_withStreamsOf]
    _ = emitList (as ++ bs) s := by rw [has, emitList_append]

/-- A register write leaves streams and framer alone. -/
theorem Emits.of_eq {s t u : State} (h : Emits s t)
    (hstreams : withStreamsOf u s = withStreamsOf t s) :
    Emits s u := by
  obtain ⟨bs, hbs⟩ := h
  exact ⟨bs, hstreams.trans hbs⟩

theorem Emits.ite {s t : State} {p : Prop} [Decidable p] (h : Emits s t) :
    Emits s (if p then t else s) := by
  split
  · exact h
  · exact .refl s

theorem emits_flush (s : State) : Emits s (flush s) := (emits_emitList s.flushBytes s).of_eq rfl

theorem emits_setLaser (l : BitVec 1) (s : State) : Emits s (setLaser l s) :=
  .ite ((emits_emitList [laserByte l] s).of_eq rfl)

theorem emits_setAx (a : BitVec 2) (s : State) : Emits s (setAx a s) :=
  .ite ((emits_emitList [axByte a] s).of_eq rfl)

theorem emits_setAy (a : BitVec 2) (s : State) : Emits s (setAy a s) :=
  .ite ((emits_emitList [ayByte a] s).of_eq rfl)

theorem emits_startRun (d : BitVec 3) (n : Int) (l : BitVec 1) (x y : BitVec 2) (s : State) :
    Emits s (startRun d n l x y s) := by
  have hmodal : Emits s (setAy y (setAx x (setLaser l (flush s)))) :=
    (emits_flush s).trans <| (emits_setLaser l _).trans <|
      (emits_setAx x _).trans <| emits_setAy y _
  exact hmodal.of_eq (by simp [startRun, withStreamsOf])

theorem emits_raise {α : Type} (c : Cause) (info : Int) (s : State) :
    Emits s (raise c info s : Flow α).state :=
  .ite ((Emits.refl s).of_eq rfl)

theorem emits_move (dir : BitVec 3) (dist : Int) (laser : BitVec 1) (ax ay : BitVec 2)
    (s : State) : Emits s (move dir dist laser ax ay s).state := by
  obtain ⟨h, -⟩ | ⟨h, -⟩ | ⟨h, -⟩ := move_cases dir dist laser ax ay s <;> rw [h]
  · exact emits_raise _ _ s
  · exact (Emits.refl s).of_eq rfl
  · exact emits_startRun _ _ _ _ _ s

theorem keptByMoves_emits (s : State) : KeptByMoves (Emits s) where
  raise _ _ t h := h.trans (emits_raise _ _ t)
  move _ _ _ _ _ t _ h := h.trans (emits_move _ _ _ _ _ t)

/-- Every instruction reaches the streams by `Emit`, but FCLOSE and the output row FRAME, which
close the frame first, and JOBRST. -/
theorem exec_emits {i : Instr} {s t : State} (h : exec i s = .next t) :
    Emits s t ∨ ((i = .fclose ∨ ∃ p, i = .frame p) ∧ Emits (closeFrame s) t) ∨
      (i = .jobrst ∧ t = jobReset s) := by
  cases exec_effect h with
  | refused | nop => exact .inl (.refl s)
  | emits bs => exact .inl (emits_emitList bs s)
  | move => exact .inl (emits_move _ _ _ _ _ s)
  | flush => exact .inl (emits_flush s)
  | line => exact .inl (line_keeps (keptByMoves_emits s) _ _ _ (.refl s))
  | spdenc => exact .inl ((Emits.refl s).of_eq (by simp [withStreamsOf]))
  | fclose => exact .inr (.inl ⟨.inl rfl, .refl _⟩)
  | @frame p => exact .inr (.inl ⟨.inr ⟨p, rfl⟩, emits_emitList p.toList _⟩)
  | jobrst => exact .inr (.inr ⟨rfl, rfl⟩)
  | fault | spddec | v2s | s2v | gearsel | tokclr | tokput | crcclr | crcupd =>
    exact .inl ((Emits.refl s).of_eq rfl)

/-- Whatever is emitted enters `S` and the framer as the same bytes in order (20_memory.md R55). -/
theorem Emits.carries {s t : State} (h : Emits s t) (hcnt : s.fcnt.toNat ≤ 29) :
    ∃ bs, t.egv = s.egv ++ bs ∧ t.framed = s.framed ++ bs := by
  obtain ⟨bs, hbs⟩ := h
  refine ⟨bs, ?_, ?_⟩
  · calc t.egv = (withStreamsOf t s).egv := rfl
      _ = s.egv ++ bs := by rw [hbs, emitList_egv]
  · calc t.framed = (withStreamsOf t s).framed := rfl
      _ = s.framed ++ bs := by rw [hbs, emitList_framed hcnt]

theorem Emits.framesSound {s t : State} (h : Emits s t) (hs : s.framesSound = true) :
    t.framesSound = true := by
  obtain ⟨bs, hbs⟩ := h
  calc t.framesSound = (withStreamsOf t s).framesSound := rfl
    _ = true := by rw [hbs, framesSound_emitList hs]

/-! ### All instructions -/

/-- Settles O19: the bytes are those emitted, the FILLER that of the frame closed before them. -/
theorem framerCarriesTheStream : Obligations.FramerCarriesTheStream := by
  intro i s t hcnt hexec hjob
  obtain hemits | ⟨hi, hemits⟩ | ⟨hi, rfl⟩ := exec_emits hexec
  · obtain ⟨bs, hegv, hframed⟩ := hemits.carries hcnt
    exact ⟨bs, 0, hegv, by simpa using hframed, Nat.zero_le _, fun h => absurd rfl h⟩
  · obtain ⟨k, hk, hclose⟩ := closeFrame_framed hcnt
    obtain ⟨bs, hegv, hframed⟩ := hemits.carries (by simp)
    exact ⟨bs, k, by rw [hegv, closeFrame_egv], by rw [hframed, hclose]; rfl, hk, fun _ => hi⟩
  · have hreset : (jobReset s).framed = s.framed := by simp [State.framed, hjob hi]
    exact ⟨[], 0, by simp, by simp [hreset], Nat.zero_le _, fun h => absurd rfl h⟩

theorem exec_framesSound {i : Instr} {s t : State} (h : exec i s = .next t)
    (hs : s.framesSound = true) : t.framesSound = true := by
  obtain hemits | ⟨-, hemits⟩ | ⟨-, rfl⟩ := exec_emits h
  · exact hemits.framesSound hs
  · exact hemits.framesSound (framesSound_closeFrame hs)
  · exact hs

/-- Settles O17: taking the word touches no frame, and every frame an instruction adds is built by
`Frame(p)`. -/
theorem soundFramesAreKept : Obligations.SoundFramesAreKept := by
  intro s t hs hstep
  unfold step at hstep
  split at hstep
  · cases hstep
    exact hs
  · exact exec_framesSound hstep hs

/-! ### The end of a job -/

theorem execAll_flush_fclose {s : State} (h : s.fault = 0) :
    execAll [.flush, .fclose] s = .next (closeFrame (flush s)) := by
  have hflush : exec .flush s = .next (flush s) :=
    runCommand_of_ok (body := fun s => .go () (flush s)) h
  have hfclose : exec .fclose (flush s) = .next (closeFrame (flush s)) :=
    runCommand_of_ok (body := fun s => .go () (closeFrame s)) ((flush_fault s).trans h)
  simp only [execAll, hflush, hfclose]

theorem flush_framed {s : State} (h : s.fcnt.toNat ≤ 29) :
    (flush s).framed = s.framed ++ s.flushBytes :=
  emitList_framed (bs := s.flushBytes) h

/-- Settles O56: FLUSH emits the pending run, and FCLOSE leaves every byte of the framer in a
frame. -/
theorem flushAndFcloseDrainTheJob : Obligations.FlushAndFcloseDrainTheJob := by
  intro s hfault hcnt
  obtain ⟨k, hk, hclose⟩ := closeFrame_framed ((continues_flush s).fcnt_le hcnt)
  refine ⟨closeFrame (flush s), execAll_flush_fclose hfault, ?_, by simp, k, hk, ?_⟩
  · simp [State.jobDone, hfault]
  · rw [← framed_of_fcnt_zero (closeFrame_fcnt _), hclose, flush_framed hcnt]
    rfl

end Sys2Proof.Machine
end

section
/-! SUPPORT. The command word: its fields put together and taken apart again, and the decoder and
its encoder field by field (spec/30_encoding.md R70 to R79). -/

namespace Sys2Proof.Machine

open Sys2Proof.Claim
open BitVec (extractLsb'_append_eq_of_le extractLsb'_append_eq_of_add_le
  extractLsb'_append_eq_right)

/-! ### The fields of a word put together from its fields (R70) -/

/-- Each of five fields put together can be taken out again. -/
theorem extract_five {n4 n3 n2 n1 n0 : Nat} (x4 : BitVec n4) (x3 : BitVec n3) (x2 : BitVec n2)
    (x1 : BitVec n1) (x0 : BitVec n0) :
    let x := x4 ++ x3 ++ x2 ++ x1 ++ x0
    x.extractLsb' 0 n0 = x0 ∧ x.extractLsb' n0 n1 = x1 ∧ x.extractLsb' (n0 + n1) n2 = x2 ∧
      x.extractLsb' (n0 + n1 + n2) n3 = x3 ∧ x.extractLsb' (n0 + n1 + n2 + n3) n4 = x4 := by
  simp [extractLsb'_append_eq_of_le, extractLsb'_append_eq_right, Nat.add_assoc]

section
variable (op : BitVec 8) (f : BitVec 24) (a0 a1 a2 : Word32)

@[simp] theorem opField_assembleWord : opField (assembleWord op f a0 a1 a2) = op := by
  obtain ⟨-, -, -, -, h⟩ := extract_five op f a0 a1 a2
  exact h

@[simp] theorem a0Field_assembleWord : a0Field (assembleWord op f a0 a1 a2) = a0 := by
  obtain ⟨-, -, h, -⟩ := extract_five op f a0 a1 a2
  exact h

@[simp] theorem a1Field_assembleWord : a1Field (assembleWord op f a0 a1 a2) = a1 := by
  obtain ⟨-, h, -⟩ := extract_five op f a0 a1 a2
  exact h

@[simp] theorem a2Field_assembleWord : a2Field (assembleWord op f a0 a1 a2) = a2 :=
  extractLsb'_append_eq_right

/-- Bits 119:96 of a word are its flag field. -/
theorem bits_assembleWord {lo len : Nat} (hlo : 96 ≤ lo) (hhi : lo + len ≤ 120) :
    bits (assembleWord op f a0 a1 a2) lo len = f.extractLsb' (lo - 96) len := by
  rw [bits, assembleWord, extractLsb'_append_eq_of_le (by omega),
    extractLsb'_append_eq_of_le (by omega), extractLsb'_append_eq_of_le (by omega)]
  exact extractLsb'_append_eq_of_add_le (by omega)

end

/-- MOVE's flag field holds its four operands (R74). -/
theorem extract_moveFlags (ay ax : BitVec 2) (laser : BitVec 1) (dir : BitVec 3) :
    let f : BitVec 24 := 0#16 ++ ay ++ ax ++ laser ++ dir
    f.extractLsb' 0 3 = dir ∧ f.extractLsb' 3 1 = laser ∧ f.extractLsb' 4 2 = ax ∧
      f.extractLsb' 6 2 = ay := by
  obtain ⟨hdir, hlaser, hax, hay, -⟩ := extract_five 0#16 ay ax laser dir
  exact ⟨hdir, hlaser, hax, hay⟩

/-- SPDENC's flag field holds its four operands (R76). -/
theorem extract_spdencFlags (rstep : BitVec 10) (fgear : BitVec 3) (fgv : BitVec 1)
    (board : BitVec 4) :
    let f : BitVec 24 := 0#6 ++ rstep ++ fgear ++ fgv ++ board
    f.extractLsb' 0 4 = board ∧ f.extractLsb' 4 1 = fgv ∧ f.extractLsb' 5 3 = fgear ∧
      f.extractLsb' 8 10 = rstep := by
  obtain ⟨hboard, hfgv, hfgear, hrstep, -⟩ := extract_five 0#6 rstep fgear fgv board
  exact ⟨hboard, hfgv, hfgear, hrstep⟩

/-! ### Decoding an encoded command -/

theorem decode_of_unlisted {w : CmdWord} (h : opField w ∉ opcodeMap) :
    decode w = .reserved (opField w) := by
  unfold decode
  split
  case h_19 => rfl
  all_goals exact absurd (by simp only [*]; decide) h

theorem decode_encode {i : Instr} {w : CmdWord} (h : encode i = some w) : decode w = i := by
  cases i with
  | nop | jobrst | spddec | tokclr | tokemit | flush | fclose | crcclr => cases h; rfl
  | v2s | s2v | dist => cases h; simp [decode]
  | tokput | emit | crcupd =>
    cases h
    simpa [decode, byteField, bits_assembleWord] using extractLsb'_append_eq_right
  | gearsel | line =>
    cases h
    simpa [decode, bits_assembleWord] using extractLsb'_append_eq_right
  | move =>
    cases h
    simpa [decode, bits_assembleWord] using extract_moveFlags _ _ _ _
  | spdenc =>
    cases h
    simpa [decode, bits_assembleWord] using extract_spdencFlags _ _ _ _
  | reserved op =>
    simp only [encode] at h
    split at h
    case isTrue => cases h
    case isFalse hop =>
      cases h
      rw [← opField_assembleWord op 0 0 0 0] at hop
      rw [decode_of_unlisted hop, opField_assembleWord]
  | _ => cases h

/-- Settles O2, command by command. -/
theorem decodeInvertsEncode : Obligations.DecodeInvertsEncode := fun _ _ h => decode_encode h

/-! ### Encoding a decoded word -/

/-- Neighbouring fields are one longer field. -/
theorem bits_append_bits (w : CmdWord) (lo n m : Nat) :
    bits w (lo + n) m ++ bits w lo n = bits w lo (m + n) :=
  BitVec.extractLsb'_append_extractLsb'_eq_extractLsb' rfl

/-- Five neighbouring fields are one longer field. -/
theorem bits_five (w : CmdWord) (lo n0 n1 n2 n3 n4 : Nat) :
    bits w (lo + n0 + n1 + n2 + n3) n4 ++ bits w (lo + n0 + n1 + n2) n3 ++
      bits w (lo + n0 + n1) n2 ++ bits w (lo + n0) n1 ++ bits w lo n0 =
      bits w lo (n4 + n3 + n2 + n1 + n0) := by
  rw [bits_append_bits, bits_append_bits, bits_append_bits, bits_append_bits]

theorem assembleWord_fields (w : CmdWord) :
    assembleWord (opField w) (bits w 96 24) (a0Field w) (a1Field w) (a2Field w) = w :=
  (bits_five w 0 32 32 32 24 8).trans BitVec.extractLsb'_eq_self

theorem and_assembleWord (w : CmdWord) (op : BitVec 8) (f : BitVec 24) (a0 a1 a2 : Word32) :
    w &&& assembleWord op f a0 a1 a2 =
      assembleWord (opField w &&& op) (bits w 96 24 &&& f) (a0Field w &&& a0) (a1Field w &&& a1)
        (a2Field w &&& a2) := by
  conv_lhs => rw [← assembleWord_fields w]
  unfold assembleWord
  rw [BitVec.and_append, BitVec.and_append, BitVec.and_append, BitVec.and_append]

/-- A field with all but its low `n` bits cleared. -/
theorem bits_and_low (w : CmdWord) (lo m n : Nat) :
    bits w lo (m + n) &&& (0#m ++ BitVec.allOnes n) = 0#m ++ bits w lo n := by
  rw [← bits_append_bits, BitVec.and_append, BitVec.and_zero, BitVec.and_allOnes]

/-- The bits a format uses: `op`, the bits `f` of the flag field, and whole operand words. -/
def formatMask (f : BitVec 24) (a0 a1 a2 : Bool) : CmdWord :=
  assembleWord (BitVec.allOnes 8) f (bif a0 then BitVec.allOnes 32 else 0)
    (bif a1 then BitVec.allOnes 32 else 0) (bif a2 then BitVec.allOnes 32 else 0)

theorem and_bif_allOnes (a : Word32) (b : Bool) :
    a &&& (bif b then BitVec.allOnes 32 else 0) = bif b then a else 0 := by
  cases b
  · exact BitVec.and_zero
  · exact BitVec.and_allOnes

theorem and_formatMask (w : CmdWord) (f : BitVec 24) (a0 a1 a2 : Bool) :
    w &&& formatMask f a0 a1 a2 =
      assembleWord (opField w) (bits w 96 24 &&& f) (bif a0 then a0Field w else 0)
        (bif a1 then a1Field w else 0) (bif a2 then a2Field w else 0) := by
  rw [formatMask, and_assembleWord, BitVec.and_allOnes, and_bif_allOnes, and_bif_allOnes,
    and_bif_allOnes]

/-- The four fields below the highest of five, the highest cleared. -/
theorem bits_five_and_low (w : CmdWord) (lo n0 n1 n2 n3 n4 : Nat) :
    0#n4 ++ bits w (lo + n0 + n1 + n2) n3 ++ bits w (lo + n0 + n1) n2 ++ bits w (lo + n0) n1 ++
      bits w lo n0 =
      bits w lo (n4 + n3 + n2 + n1 + n0) &&&
        (0#n4 ++ BitVec.allOnes n3 ++ BitVec.allOnes n2 ++ BitVec.allOnes n1 ++
          BitVec.allOnes n0) := by
  rw [← bits_five, BitVec.and_append, BitVec.and_append, BitVec.and_append, BitVec.and_append]
  simp only [BitVec.and_zero, BitVec.and_allOnes]

/-- The flag bits MOVE uses, field by field (R74). -/
theorem moveFlags_eq (w : CmdWord) :
    0#16 ++ bits w 102 2 ++ bits w 100 2 ++ bits w 99 1 ++ bits w 96 3 =
      bits w 96 24 &&& 0x0000FF :=
  bits_five_and_low w 96 3 1 2 2 16

/-- The flag bits SPDENC uses, field by field (R76). -/
theorem spdencFlags_eq (w : CmdWord) :
    0#6 ++ bits w 104 10 ++ bits w 101 3 ++ bits w 100 1 ++ bits w 96 4 =
      bits w 96 24 &&& 0x03FFFF :=
  bits_five_and_low w 96 4 1 3 10 6

/-- The flag bits of format B (R73). -/
theorem byteFlags_eq (w : CmdWord) : 0#16 ++ byteField w = bits w 96 24 &&& 0x0000FF :=
  (bits_and_low w 96 16 8).symm

/-- The flag bits of LINE and GEARSEL (R75, R77). -/
theorem flagBit_eq (w : CmdWord) : 0#23 ++ bits w 96 1 = bits w 96 24 &&& 0x000001 :=
  (bits_and_low w 96 23 1).symm

/-- The flag bits of the formats that use none. -/
theorem noFlags_eq (w : CmdWord) : 0#24 = bits w 96 24 &&& 0 := BitVec.and_zero.symm

/-- A word put together from the fields its format uses is the word with the other bits cleared. -/
theorem assembleWord_used {w m : CmdWord} {op : BitVec 8} {f g : BitVec 24} (a0 a1 a2 : Bool)
    (hop : opField w = op) (hg : g = bits w 96 24 &&& f) (hm : m = formatMask f a0 a1 a2) :
    assembleWord op g (bif a0 then a0Field w else 0) (bif a1 then a1Field w else 0)
      (bif a2 then a2Field w else 0) = w &&& m := by
  rw [hm, and_formatMask, hop, hg]

/-- The encoding of a decoded word, by the format of its `op`. -/
theorem encode_decode (w : CmdWord) : encode (decode w) = some (w &&& usedBits (decode w)) := by
  unfold decode
  split
  -- SPDENC
  case h_3 h => exact congrArg some (assembleWord_used true true false h (spdencFlags_eq w) rfl)
  -- V2S, S2V
  case h_5 h | h_6 h =>
    exact congrArg some (assembleWord_used true true true h (noFlags_eq w) rfl)
  -- GEARSEL
  case h_7 h => exact congrArg some (assembleWord_used true false false h (flagBit_eq w) rfl)
  -- TOKPUT, EMIT, CRCUPD
  case h_9 h | h_13 h | h_18 h =>
    exact congrArg some (assembleWord_used false false false h (byteFlags_eq w) rfl)
  -- MOVE
  case h_11 h => exact congrArg some (assembleWord_used true false false h (moveFlags_eq w) rfl)
  -- DIST
  case h_14 h => exact congrArg some (assembleWord_used true false false h (noFlags_eq w) rfl)
  -- LINE
  case h_15 h => exact congrArg some (assembleWord_used true true false h (flagBit_eq w) rfl)
  -- RESERVED
  case h_19 =>
    have hop : opField w ∉ opcodeMap := by simp_all [opcodeMap]
    rw [encode, if_neg hop]
    exact congrArg some (assembleWord_used false false false rfl (noFlags_eq w) rfl)
  -- the commands without operands
  all_goals
    rename_i h
    exact congrArg some (assembleWord_used false false false h (noFlags_eq w) rfl)

/-- Settles O3, format by format. -/
theorem encodeKeepsExactlyTheUsedBits : Obligations.EncodeKeepsExactlyTheUsedBits := encode_decode

/-! ### The ignored bits -/

/-- The format of a word is a matter of its `op`. -/
theorem usedBits_decode_congr {w w' : CmdWord} (h : opField w = opField w') :
    usedBits (decode w) = usedBits (decode w') := by
  unfold decode
  rw [h]
  split <;> simp only [usedBits]

/-- Every format uses `op`. -/
theorem opField_and_usedBits (w w' : CmdWord) :
    opField (w' &&& usedBits (decode w)) = opField w' := by
  have hop : opField (usedBits (decode w)) = 0xFF := by
    unfold decode
    split <;> (simp only [usedBits]; decide)
  calc opField (w' &&& usedBits (decode w))
      = opField w' &&& opField (usedBits (decode w)) := BitVec.extractLsb'_and
    _ = opField w' := by rw [hop]; exact BitVec.and_allOnes

/-- Settles O4: the words have one `op`, so one format, and the encoder gives them one word. -/
theorem ignoredFieldsHaveNoEffect : Obligations.IgnoredFieldsHaveNoEffect := by
  intro w w' h
  have hop : opField w = opField w' := by
    rw [← opField_and_usedBits w w, h, opField_and_usedBits]
  have hw : encode (decode w') = encode (decode w) := by
    rw [encode_decode, encode_decode, h, usedBits_decode_congr hop]
  exact (decode_encode (hw.trans (encode_decode w))).symm.trans (decode_encode (encode_decode w))

/-! ### The fields by division (00_scope.md R14) -/

theorem bits_eq_slice (w : CmdWord) (lo len : Nat) : bits w lo len = slice w lo len := by
  rw [slice, ← Nat.shiftRight_eq_div_pow]
  rfl

theorem opField_toNat (w : CmdWord) : (opField w).toNat = w.toNat / 2 ^ 120 := by
  have := w.isLt
  rw [opField, bits_eq_slice, slice, BitVec.toNat_ofNat]
  omega

theorem toNat_notMem_of_unlisted {op : BitVec 8} (h : op ∉ opcodeMap) :
    op.toNat ∉ opcodeMap.map BitVec.toNat :=
  mt (List.mem_map_of_injective fun _ _ => BitVec.eq_of_toNat_eq).mp h

/-- Settles O1, one case for each `op`; an `op` the decoder does not list is none of the numbers. -/
theorem commandFieldsDecode : Obligations.CommandFieldsDecode := by
  intro w
  rw [← opField_toNat]
  unfold decode
  simp only [byteField, a0Field, a1Field, a2Field, bits_eq_slice]
  split
  case h_19 =>
    have hop : opField w ∉ opcodeMap := by simp_all [opcodeMap]
    split
    case h_19 => rw [BitVec.ofNat_toNat, BitVec.setWidth_eq]
    all_goals exact absurd (by simp only [*]; decide) (toNat_notMem_of_unlisted hop)
  all_goals
    simp only [*]
    rfl

/-- Settles O5: each side is closed, so the decoder is run on the nine words. -/
theorem sampleWordsDecode : Obligations.SampleWordsDecode := by
  unfold Obligations.SampleWordsDecode
  decide

theorem wrap32_toNat {n : Nat} (x : BitVec n) : wrap32 x.toNat = x.setWidth 32 := by
  rw [wrap32, BitVec.ofInt_natCast, BitVec.ofNat_toNat]

/-- Settles O11: RESERVED is one raise, and an `op` outside the map has no other case. -/
theorem reservedOpcodeRaisesIllegalCommand : Obligations.ReservedOpcodeRaisesIllegalCommand := by
  refine ⟨fun op s h => ?_, fun w hw => decode_of_unlisted hw⟩
  have hexec : exec (.reserved op) s = runCommand (raise .illegalCommand op.toNat) s := rfl
  rw [hexec, runCommand_of_ok h, raise_state, if_pos h, wrap32_toNat]
  rfl

end Sys2Proof.Machine
end

section
/-! SUPPORT. The distance code and its reader (spec/30_encoding.md R84, R85; 41_motion_encoder.md
R150). -/

namespace Sys2Proof.Machine

open Sys2Proof.Claim

/-! ### Three decimal digits -/

theorem paddedDigits_of_lt_thousand {n : Nat} (h : n < 1000) :
    paddedDigits n = [n % 10, n / 10 % 10, n / 100] := by
  have hdigits : (Nat.digits 10 n).length ≤ 3 := (Nat.digits_length_le_iff (by decide) n).mpr h
  obtain ⟨a, b, c, habc⟩ := List.length_eq_three.mp
    ((length_paddedDigits n).trans (max_eq_left hdigits))
  have hlt : ∀ d ∈ [a, b, c], d < 10 := habc ▸ fun d hd => paddedDigits_lt_ten hd
  have hsum : a + 10 * (b + 10 * c) = n := by
    simpa [habc, Nat.ofDigits] using ofDigits_paddedDigits n
  simp only [List.forall_mem_cons] at hlt
  obtain ⟨ha, hb, hc, -⟩ := hlt
  have ha' : a = n % 10 := by omega
  have hb' : b = n / 10 % 10 := by omega
  have hc' : c = n / 100 := by omega
  rw [habc, ← ha', ← hb', ← hc']

theorem dec3_of_lt_thousand {n : Nat} (h : n < 1000) :
    dec3 n = [digitByte (n / 100), digitByte (n / 10 % 10), digitByte (n % 10)] := by
  rw [dec3_eq_paddedDigits, paddedDigits_of_lt_thousand h]
  rfl

/-! ### The code -/

theorem encodeDistance_of_lt {r : Nat} (h : r < 255) : encodeDistance r = remainderBytes r := by
  rw [encodeDistance, Nat.div_eq_of_lt h, Nat.mod_eq_of_lt h]
  rfl

theorem encodeDistance_eq_distanceBytes (n : Nat) : encodeDistance n = distanceBytes n := by
  have hr : n % 255 < 1000 := by omega
  rw [encodeDistance, distanceBytes, remainderBytes, dec3_of_lt_thousand hr]
  by_cases h25 : n % 255 ≤ 25
  · simp only [h25, if_true]
  · have hescape : 96 + n % 255 - 25 = 96 + (n % 255 - 25) := by omega
    rw [hescape]
    rfl

/-! ### The reader -/

@[simp] theorem decodeDistanceFrom_nil (total : Nat) :
    decodeDistanceFrom total [] = (total, []) := by
  rw [decodeDistanceFrom]

theorem decodeDistanceFrom_full (total : Nat) (bs : List Byte) :
    decodeDistanceFrom total (122 :: bs) = decodeDistanceFrom (total + 255) bs := by
  rw [decodeDistanceFrom.eq_def]
  exact if_pos rfl

theorem decodeDistanceFrom_replicate (k total : Nat) (bs : List Byte) :
    decodeDistanceFrom total (List.replicate k 122 ++ bs) =
      decodeDistanceFrom (total + 255 * k) bs := by
  induction k generalizing total with
  | zero => rfl
  | succ k ih =>
    rw [List.replicate_succ, List.cons_append, decodeDistanceFrom_full, ih]
    congr 1
    omega

theorem decodeDistanceFrom_letter {r : Nat} (h1 : 1 ≤ r) (h25 : r ≤ 25) (total : Nat)
    (bs : List Byte) :
    decodeDistanceFrom total (BitVec.ofNat 8 (96 + r) :: bs) =
      decodeDistanceFrom (total + r) bs := by
  have hb : (BitVec.ofNat 8 (96 + r)).toNat = 96 + r := by rw [BitVec.toNat_ofNat]; omega
  have hfull : BitVec.ofNat 8 (96 + r) ≠ 122 := by rw [BitVec.toNat_ne, hb]; simp; omega
  rw [decodeDistanceFrom.eq_def]
  dsimp only
  rw [if_neg hfull, if_pos (by omega), hb, Nat.add_sub_cancel_left]

theorem decodeDistanceFrom_escape {r : Nat} (h26 : 26 ≤ r) (h51 : r ≤ 51) (total : Nat)
    (bs : List Byte) :
    decodeDistanceFrom total (124 :: BitVec.ofNat 8 (96 + r - 25) :: bs) =
      decodeDistanceFrom (total + r) bs := by
  have hb : (BitVec.ofNat 8 (96 + r - 25)).toNat = 96 + r - 25 := by
    rw [BitVec.toNat_ofNat]; omega
  have hr : 96 + r - 25 - 96 + 25 = r := by omega
  rw [decodeDistanceFrom, if_neg (by decide), if_neg (by decide), if_pos rfl, if_pos (by omega),
    hb, hr]

theorem isDigit_iff (b : Byte) : isDigit b = true ↔ 0x30 ≤ b.toNat ∧ b.toNat ≤ 0x39 := by
  rw [isDigit, decide_eq_true_iff]

theorem decodeDistanceFrom_digits {d2 d1 d0 : Byte} (h : [d2, d1, d0].all isDigit = true)
    (total : Nat) (bs : List Byte) :
    decodeDistanceFrom total (d2 :: d1 :: d0 :: bs) =
      decodeDistanceFrom (total + num [d2, d1, d0]) bs := by
  simp only [List.all_cons, List.all_nil, Bool.and_true, Bool.and_eq_true] at h
  obtain ⟨h2, h10⟩ := h
  have hd := (isDigit_iff d2).mp h2
  have hfull : d2 ≠ 122 := by rintro rfl; exact absurd hd (by decide)
  have hescape : d2 ≠ 124 := by rintro rfl; exact absurd hd (by decide)
  rw [decodeDistanceFrom, if_neg hfull, if_neg (by omega), if_neg hescape, if_pos h2]
  dsimp only
  rw [if_pos (by simpa using h10)]

/-- The reader takes all of a remainder group. -/
theorem decodeDistanceFrom_remainderBytes {r : Nat} (h : r < 255) (total : Nat) :
    decodeDistanceFrom total (remainderBytes r) = (total + r, []) := by
  unfold remainderBytes
  split
  case isTrue h0 => rw [decodeDistanceFrom_nil, h0]; rfl
  split
  case isTrue h25 => rw [decodeDistanceFrom_letter (by omega) h25, decodeDistanceFrom_nil]
  split
  case isTrue h51 => rw [decodeDistanceFrom_escape (by omega) h51, decodeDistanceFrom_nil]
  have hdigits := dec3_all_isDigit r
  have hnum := num_dec3 r
  rw [dec3_of_lt_thousand (by omega)] at hdigits hnum ⊢
  rw [decodeDistanceFrom_digits hdigits, hnum, decodeDistanceFrom_nil]

theorem decodeDistanceFrom_encodeDistance (n : Nat) :
    decodeDistanceFrom 0 (encodeDistance n) = (n, []) := by
  rw [encodeDistance, decodeDistanceFrom_replicate,
    decodeDistanceFrom_remainderBytes (Nat.mod_lt n (by decide)), Nat.zero_add,
    Nat.div_add_mod]

/-- Settles O40: the reader passes over the full groups and takes the remainder group. -/
theorem distanceCodeReadsBack : Obligations.DistanceCodeReadsBack :=
  fun n => ⟨encodeDistance_eq_distanceBytes n,
    congrArg Prod.fst (decodeDistanceFrom_encodeDistance n), decodeDistanceFrom_encodeDistance n⟩

end Sys2Proof.Machine
end

section
/-! SUPPORT. What executing a row of the output emits (spec/30_encoding.md R80 to R92), and the
faults that MOVE and SPDENC take before any effect (60_exceptions.md R253, R258). -/

namespace Sys2Proof.Machine

open Sys2Proof.Claim

/-! ### Direction and laser bytes (30_encoding.md R81, R82) -/

/-- Settles O39: each code of R81 and R82 has its byte, none is a free value. -/
theorem directionAndLaserBytes : Obligations.DirectionAndLaserBytes := by
  unfold Obligations.DirectionAndLaserBytes
  decide

/-! ### Rows of the output -/

section
variable {s : State}

theorem putOutput_of_ok (h : s.fault = 0) (bs : List Byte) :
    putOutput bs s = .next (emitList bs s) := runCommand_of_ok h

/-- Settles O57: each row is the output of one byte. -/
theorem byteRowsEmitTheirByte : Obligations.ByteRowsEmitTheirByte := by
  intro s h
  have hbyte (b : Byte) : putOutput [b] s = .next (emit b s) := putOutput_of_ok h [b]
  exact ⟨hbyte _, hbyte _, hbyte _, hbyte _, hbyte _, hbyte _, hbyte _, hbyte _, hbyte _, hbyte _,
    hbyte _, hbyte _, hbyte _, hbyte _, hbyte _, hbyte _, hbyte _⟩

theorem putOutput_encodeDistance (h : s.fault = 0) (n : Nat) :
    putOutput (encodeDistance n) s = .next (emitList (distanceBytes n) s) := by
  rw [putOutput_of_ok h, encodeDistance_eq_distanceBytes]

end

theorem remainderBytes_letter {r : Nat} (h1 : 1 ≤ r) (h25 : r ≤ 25) :
    remainderBytes r = [BitVec.ofNat 8 (96 + r)] := by
  rw [remainderBytes, if_neg (by omega), if_pos h25]

theorem remainderBytes_escape {r : Nat} (h26 : 26 ≤ r) (h51 : r ≤ 51) :
    remainderBytes r = [124, BitVec.ofNat 8 (96 + r - 25)] := by
  rw [remainderBytes, if_neg (by omega), if_neg (by omega), if_pos h51]

theorem remainderBytes_digits {r : Nat} (h52 : 52 ≤ r) : remainderBytes r = dec3 r := by
  rw [remainderBytes, if_neg (by omega), if_neg (by omega), if_neg (by omega)]

/-- Settles O58: each row is the output of the distance code of its ticks. -/
theorem distanceRowsEmitTheirTicks : Obligations.DistanceRowsEmitTheirTicks := by
  intro s h
  refine ⟨putOutput_of_ok h [], putOutput_encodeDistance h 255, fun r h1 h25 => ?_,
    fun r h26 h51 => ?_, fun r h52 h254 => ?_, fun d n => ?_⟩
  · rw [← putOutput_encodeDistance h, encodeDistance_of_lt (by omega),
      remainderBytes_letter h1 h25]
    rfl
  · rw [← putOutput_encodeDistance h, encodeDistance_of_lt (by omega),
      remainderBytes_escape h26 h51]
    rfl
  · rw [← putOutput_encodeDistance h, encodeDistance_of_lt (by omega), remainderBytes_digits h52]
    rfl
  · rw [← encodeDistance_eq_distanceBytes]
    exact putOutput_of_ok h (runBytes d n.toNat)

/-- Settles O59: each row is the output of its text. -/
theorem tokenRowsEmitTheirText : Obligations.TokenRowsEmitTheirText := by
  intro v d gear steps rstep s h
  refine ⟨putOutput_of_ok h _, putOutput_of_ok h _, ?_, ?_⟩
  · have htext : [0x43, 0x56] ++ encodeValue v ++ dec1 gear.toNat ++ dec3 steps.toNat ++
        encodeValue d = tokenDiagonalBytes v gear.toNat steps.toNat d := by
      simp [tokenDiagonalBytes, tokenVectorBytes]
    rw [htext]
    exact putOutput_of_ok h _
  · have htext : [0x56] ++ encodeValue v ++ dec1 gear.toNat ++ [0x47] ++ dec3 rstep.toNat =
        tokenRasterBytes v gear.toNat rstep.toNat := by simp [tokenRasterBytes]
    rw [htext]
    exact putOutput_of_ok h _

/-! ### Faults before any effect -/

/-- A command whose body raises with no fault held. -/
theorem runCommand_raise {body : State → Flow Unit} {s : State} {c : Cause} {info : Int}
    (h : s.fault = 0) (hbody : body s = raise c info s) :
    runCommand body s = .next (withFault c.code (wrap32 info) s) := by
  rw [runCommand_of_ok h, hbody, raise_state, if_pos h]

theorem wrap32_sext32 (n : Word32) : wrap32 (sext32 n) = n := BitVec.ofInt_toInt

theorem move_of_neg {dist : Int} (h : dist < 0) (dir : BitVec 3) (laser : BitVec 1)
    (ax ay : BitVec 2) (s : State) :
    move dir dist laser ax ay s = raise .invalidDistance dist s := by
  rw [move, if_pos h]

/-- Settles O43: the fields are looked at first, then the sign of the distance. -/
theorem moveFaultsBeforeAnyEffect : Obligations.MoveFaultsBeforeAnyEffect := by
  intro dir laser ax ay n s h
  have hexec : exec (.move dir laser ax ay n) s = execMove dir laser ax ay n s := rfl
  rw [hexec, execMove]
  refine ⟨fun hbad => ?_, fun hdir0 hdir hax hay hn => ?_⟩
  · have hlegal : ¬moveFieldsLegal dir ax ay = true := by
      rw [moveFieldsLegal_iff]
      rintro ⟨hdir0, hdir, hax, hay⟩
      rcases hbad with hd | hd | hx | hy
      · exact hdir0 hd
      · exact absurd hd (BitVec.not_lt.mpr hdir)
      · exact hax hx
      · exact hay hy
    refine runCommand_raise (c := .illegalCommand) (info := 0x20) h ?_
    exact if_neg hlegal
  · have hlegal := (moveFieldsLegal_iff dir ax ay).mpr ⟨hdir0, hdir, hax, hay⟩
    conv_rhs => rw [← wrap32_sext32 n]
    refine runCommand_raise (c := .invalidDistance) h ?_
    exact (if_pos hlegal).trans (move_of_neg hn dir laser ax ay s)

theorem spdenc_of_illegal {fgv : BitVec 1} {fgear : BitVec 3} {rstep : BitVec 10}
    (h : ¬spdencFieldsLegal fgv fgear rstep = true) (c : Params) (board : BitVec 4)
    (feed ratio : Word32) (s : State) :
    spdenc c board fgv fgear rstep feed ratio s = raise .illegalCommand 0x10 s := by
  unfold spdenc
  split
  · rfl
  · exact if_neg h

/-- Settles O28: SPDENC writes only when its fields are legal. -/
theorem spdencIllegalFieldsFault : Obligations.SpdencIllegalFieldsFault := by
  intro board fgv fgear rstep feed ratio s h hbad
  have hlegal : ¬spdencFieldsLegal fgv fgear rstep = true := by
    rw [spdencFieldsLegal_iff]
    rintro ⟨hgear, hstep⟩
    rcases hbad with ⟨hfgv, hg⟩ | hr
    · exact absurd hg (BitVec.not_lt.mpr (hgear hfgv))
    · exact absurd hr (BitVec.not_lt.mpr hstep)
  exact runCommand_raise h (spdenc_of_illegal hlegal _ _ _ _ s)

end Sys2Proof.Machine
end

section
/-! SUPPORT. CRC-8 bit by bit, the wire format of a frame (spec/44_crc8_framer.md R215 to R217;
30_encoding.md R95, R96), and the output row FRAME. -/

namespace Sys2Proof.Machine

open Sys2Proof.Claim

/-! ### CRC-8 -/

/-- One iteration of `Crc8Byte`, with bit `i` of the byte (R215). -/
def crcStep (byte c : Byte) (i : Nat) : Byte :=
  (c >>> 1) ^^^ if c.getLsbD 0 = byte.getLsbD i then 0x00 else 0x8C

theorem crcOfByte_eq_foldl (crc byte : Byte) :
    crcOfByte crc byte = (List.range' 0 8).foldl (crcStep byte) crc := rfl

/-- The mixed bit is 1 where the lowest bits differ. -/
theorem xor_and_one_eq_one_iff (a b : Byte) :
    (a ^^^ b) &&& 1 = 1 ↔ a.getLsbD 0 ≠ b.getLsbD 0 := by
  change (a ^^^ b) &&& 1#8 = 1#8 ↔ _
  rw [BitVec.and_one_eq_setWidth_ofBool_getLsbD, BitVec.getLsbD_xor]
  cases a.getLsbD 0 <;> cases b.getLsbD 0 <;> decide

theorem crc8Bits_succ (k : Nat) (crc byte : Byte) :
    crc8Bits (k + 1) crc byte = crc8Bits k (crcStep byte crc 0) (byte >>> 1) := by
  rw [crc8Bits, crcStep]
  by_cases h : crc.getLsbD 0 = byte.getLsbD 0
  · rw [if_neg (mt (xor_and_one_eq_one_iff crc byte).mp (not_not_intro h)), if_pos h]
    exact congrArg (crc8Bits k · _) BitVec.xor_zero.symm
  · rw [if_pos ((xor_and_one_eq_one_iff crc byte).mpr h), if_neg h]

theorem crcStep_shiftRight (byte c : Byte) (j : Nat) :
    crcStep (byte >>> j) c 0 = crcStep byte c j := by
  rw [crcStep, crcStep, BitVec.getLsbD_ushiftRight, Nat.add_zero]

/-- `k` iterations take the byte's next `k` bits in order. -/
theorem crc8Bits_shiftRight (k j : Nat) (crc byte : Byte) :
    crc8Bits k crc (byte >>> j) = (List.range' j k).foldl (crcStep byte) crc := by
  induction k generalizing j crc with
  | zero => rfl
  | succ k ih =>
    rw [crc8Bits_succ, crcStep_shiftRight, ← BitVec.shiftRight_add, ih, List.range'_succ,
      List.foldl_cons]

theorem crc8Byte_eq_crcOfByte (crc byte : Byte) : crc8Byte crc byte = crcOfByte crc byte := by
  rw [crcOfByte_eq_foldl, ← crc8Bits_shiftRight, crc8Byte, BitVec.ushiftRight_zero]

theorem crc8_eq_crcOfBytes (bs : List Byte) : crc8 bs = crcOfBytes bs := by
  have hbyte : crc8Byte = crcOfByte := funext₂ crc8Byte_eq_crcOfByte
  rw [crc8, crcOfBytes, hbyte]
  rfl

/-- A leading zero byte leaves the initial register as it is (30_encoding.md R96). -/
theorem crc8_zero_cons (bs : List Byte) : crc8 (0x00 :: bs) = crc8 bs := by
  have hzero : crc8Byte crcInit 0x00 = crcInit := by decide
  rw [crc8, List.foldl_cons, hzero, crc8]

/-! ### The wire format -/

theorem getElem_frameOf (p : Payload) (i : Nat) (hi : i < 34) :
    some (frameOf p)[i] =
      ([0xA6, 0x00] ++ p.toList ++ [0xA6, crc8 (0x00 :: p.toList)])[i]? := by
  rw [← frameOf_toList, Vector.getElem?_toList, Vector.getElem?_eq_getElem]

/-- Settles O53: the frame as a list, byte by byte. -/
theorem frameWireFormat : Obligations.FrameWireFormat := by
  refine ⟨fun p => ⟨?_, ?_, fun i hi => ?_, ?_, ?_⟩, crc8_eq_crcOfBytes, crc8_zero_cons⟩ <;>
    refine Option.some_inj.mp ((getElem_frameOf p _ (by omega)).trans ?_)
  · rfl
  · rfl
  · simp [List.getElem?_append_left, hi]
  · simp
  · simp [crc8_eq_crcOfBytes]

/-! ### The row FRAME -/

section
variable {bs : List Byte} {s : State}

/-- Bytes that do not fill the frame build none. -/
theorem emitList_frames_of_fits (h : s.fcnt.toNat + bs.length ≤ 29) :
    (emitList bs s).frames = s.frames := by
  have hlen := length_frames_emitList bs (s := s) (by omega)
  refine ((emitList_frames_prefix bs s).eq_of_length ?_).symm
  omega

theorem emitList_fcnt_of_fits (h : s.fcnt.toNat + bs.length ≤ 29) :
    (emitList bs s).fcnt.toNat = s.fcnt.toNat + bs.length := by
  have hframed := congrArg List.length (emitList_framed (bs := bs) (s := s) (by omega))
  rw [length_framed (emitList_fcnt_le (by omega)), emitList_frames_of_fits h, List.length_append,
    length_framed (by omega)] at hframed
  omega

/-- Bytes that do not fill the frame stand in FBUF behind those taken before. -/
theorem emitList_fbuf_of_fits (h : s.fcnt.toNat + bs.length ≤ 29) :
    (emitList bs s).fbuf.toList.take (s.fcnt.toNat + bs.length) =
      s.fbuf.toList.take s.fcnt.toNat ++ bs := by
  have hframed := emitList_framed (bs := bs) (s := s) (by omega)
  rw [State.framed, State.framed, emitList_frames_of_fits h, emitList_fcnt_of_fits h,
    List.append_assoc] at hframed
  exact List.append_cancel_left hframed

end

/-- Thirty bytes from an empty frame buffer are one frame (44_crc8_framer.md R225): 29 that do not
fill it, and the one that does. -/
theorem emitList_payload {s : State} (h : s.fcnt = 0) (p : Payload) :
    emitList p.toList s =
      { s with
        egv := s.egv ++ p.toList, fbuf := p, frames := s.frames ++ [frameOf p], fcnt := 0 } := by
  have hne : p.toList ≠ [] := List.ne_nil_of_length_pos (by rw [Vector.length_toList]; decide)
  obtain ⟨bs, b, hp⟩ := (List.eq_nil_or_concat' p.toList).resolve_left hne
  have hlen : bs.length = 29 := by
    have hlen := congrArg List.length hp
    rw [Vector.length_toList, List.length_append, List.length_singleton] at hlen
    omega
  have hfits : s.fcnt.toNat + bs.length ≤ 29 := by rw [h, hlen]; decide
  have hcnt : (emitList bs s).fcnt = 29 := by
    apply BitVec.eq_of_toNat_eq
    rw [emitList_fcnt_of_fits hfits, h, hlen]
    rfl
  have hfbuf : (emitList bs s).fbuf.setIfInBounds 29 b = p := by
    have htake : (emitList bs s).fbuf.toList.take 29 = bs := by
      simpa [h, hlen] using emitList_fbuf_of_fits hfits
    have hset := set_take_succ (emitList bs s).fbuf b (i := 29) (by decide)
    rw [htake, List.take_of_length_le (by rw [Vector.length_toList]), ← hp] at hset
    exact Vector.toList_inj.mp hset
  rw [hp, emitList_append, emitList_cons, emitList_nil, emit_of_full hcnt]
  ext1 <;> simp [hcnt, hfbuf, emitList_frames_of_fits hfits]

/-- Settles O60: closing the frame leaves an empty frame buffer, which the payload fills. -/
theorem frameRowAppendsTheFrame : Obligations.FrameRowAppendsTheFrame := by
  intro p s h _
  refine ⟨closeFrame s, runCommand_of_ok (body := fun s => .go () (closeFrame s)) h, ?_⟩
  have hexec : exec (.frame p) s = .next (emitList p.toList (closeFrame s)) :=
    runCommand_of_ok (body := fun s => .go () (emitList p.toList (closeFrame s))) h
  rw [hexec, emitList_payload (closeFrame_fcnt s), closeFrame_egv]

end Sys2Proof.Machine
end

section
/-! SUPPORT. The value field (spec/30_encoding.md R89; 40_speed_codec.md R118) and how SPDDEC reads
the three forms of a token back (40_speed_codec.md R125 to R130). -/

namespace Sys2Proof.Machine

open Sys2Proof.Claim

/-! ### The value field -/

theorem valueHi_lt (v : Int) : valueHi v < 16777216 := by unfold valueHi; omega

theorem valueLo_lt (v : Int) : valueLo v < 256 := by unfold valueLo; omega

theorem valueHi_eq_extract (v : Int) :
    valueHi v = ((BitVec.ofInt 32 v).extractLsb' 8 24).toNat := by
  rw [BitVec.extractLsb'_toNat, BitVec.toNat_ofInt, Nat.shiftRight_eq_div_pow, valueHi]
  omega

theorem valueLo_eq_extract (v : Int) :
    valueLo v = ((BitVec.ofInt 32 v).extractLsb' 0 8).toNat := by
  rw [BitVec.extractLsb'_toNat, BitVec.toNat_ofInt, Nat.shiftRight_zero, valueLo]
  omega

theorem length_dec3_le_iff {k : Nat} (hk : 3 ≤ k) (n : Nat) :
    (dec3 n).length ≤ k ↔ n < 10 ^ k := by
  rw [length_dec3, max_le_iff, Nat.digits_length_le_iff (by decide)]
  exact and_iff_right hk

theorem three_le_length_dec3 (n : Nat) : 3 ≤ (dec3 n).length := length_dec3 n ▸ le_max_left _ _

theorem length_dec3_valueLo (v : Int) : (dec3 (valueLo v)).length = 3 :=
  length_dec3_of_lt_thousand ((valueLo_lt v).trans (by decide))

theorem length_encodeValue (v : Int) :
    (encodeValue v).length = (dec3 (valueHi v)).length + 3 := by
  rw [encodeValue, List.length_append, length_dec3_valueLo]

theorem length_encodeValue_eq_six_iff (v : Int) :
    (encodeValue v).length = 6 ↔ valueHi v < 1000 := by
  have hle := length_dec3_le_iff (le_refl 3) (valueHi v)
  have hge := three_le_length_dec3 (valueHi v)
  rw [length_encodeValue]
  omega

theorem length_encodeValue_eq_eleven_iff (v : Int) :
    (encodeValue v).length = 11 ↔ 10000000 ≤ valueHi v := by
  have h7 := length_dec3_le_iff (by decide : 3 ≤ 7) (valueHi v)
  have h8 := length_encodeValue_le v
  rw [length_encodeValue] at h8 ⊢
  omega

/-- Settles O24: the groups are bits of the pattern, and the length is that of the high group. -/
theorem valueFieldBitsAndLength : Obligations.ValueFieldBitsAndLength := by
  intro v
  have hlen := length_encodeValue v
  have hge := three_le_length_dec3 (valueHi v)
  refine ⟨?_, fun h0 h => ?_, fun h h0 => ?_, by omega, length_encodeValue_le v, ?_⟩
  · rw [← valueHi_eq_extract, ← valueLo_eq_extract, encodeValue]
  · rw [length_encodeValue_eq_six_iff, valueHi]
    omega
  · rw [length_encodeValue_eq_eleven_iff, valueHi]
    omega
  · rw [length_encodeValue_eq_eleven_iff, valueHi]
    omega

theorem encodeValue_all_isDigit (v : Int) : (encodeValue v).all isDigit = true := by
  rw [encodeValue, List.all_append, dec3_all_isDigit, dec3_all_isDigit]
  rfl

theorem valueHi_of_nonneg {v : Int} (h0 : 0 ≤ v) (h : v ≤ 255999) :
    valueHi v < 1000 ∧ v = 256 * (valueHi v : Int) + valueLo v := by
  unfold valueHi valueLo
  omega

theorem valueHi_of_neg {v : Int} (h : -198967040 ≤ v) (h0 : v ≤ -1) :
    16000000 < valueHi v ∧ v = 256 * ((valueHi v : Int) - 16777216) + valueLo v := by
  unfold valueHi valueLo
  omega

/-- In R130's domain the values that are not negative are those of the short form. -/
theorem nonneg_iff_length_encodeValue {v : Int} (hv : decodable v) :
    0 ≤ v ↔ (encodeValue v).length = 6 := by
  rw [length_encodeValue_eq_six_iff]
  rcases hv with ⟨h0, h⟩ | ⟨h, h0⟩
  · exact iff_of_true h0 (valueHi_of_nonneg h0 h).1
  · have hhi := (valueHi_of_neg h h0).1
    exact iff_of_false (by omega) (by omega)

/-- The field of a value of R130's domain is a field of that value (40_speed_codec.md R127). -/
theorem field_encodeValue {v : Int} (hv : decodable v) : Field (encodeValue v) v := by
  have hlo := valueLo_lt v
  have hgroups (k : Nat) (hk : (dec3 (valueHi v)).length = k) :
      num ((encodeValue v).take k) = valueHi v ∧ num ((encodeValue v).drop k) = valueLo v := by
    rw [encodeValue, List.take_left' hk, List.drop_left' hk, num_dec3, num_dec3]
    exact ⟨rfl, rfl⟩
  refine ⟨encodeValue_all_isDigit v, ?_⟩
  rcases hv with ⟨h0, h⟩ | ⟨h, h0⟩
  · obtain ⟨hhi, hval⟩ := valueHi_of_nonneg h0 h
    have hlen := (length_encodeValue_eq_six_iff v).mpr hhi
    obtain ⟨htake, hdrop⟩ := hgroups 3 (length_dec3_of_lt_thousand hhi)
    rw [htake, hdrop]
    exact .inl ⟨hlen, by omega, hval⟩
  · obtain ⟨hhi, hval⟩ := valueHi_of_neg h h0
    have hlen := (length_encodeValue_eq_eleven_iff v).mpr (by omega)
    have hlen8 := length_encodeValue v
    obtain ⟨htake, hdrop⟩ := hgroups 8 (by omega)
    have hlt := valueHi_lt v
    rw [htake, hdrop]
    exact .inr ⟨hlen, by omega, hhi, by omega, hval⟩

/-! ### Reading a field -/

section
variable {ds : List Byte} {v : Int}

theorem isDigit_of_field (h : Field ds v) : ds.all isDigit = true := h.1

theorem length_of_field (h : Field ds v) : ds.length = 6 ∨ ds.length = 11 := by
  obtain ⟨-, ⟨hlen, -⟩ | ⟨hlen, -⟩⟩ := h
  · exact .inl hlen
  · exact .inr hlen

theorem inLongRange_iff (n : Nat) : inLongRange n = true ↔ 16000000 < n ∧ n ≤ 16777215 := by
  rw [inLongRange, decide_eq_true_iff]

theorem inLongRange_of_field (h : Field ds v) (hlen : ds.length = 11) :
    inLongRange (num (ds.take 8)) = true := by
  obtain ⟨-, ⟨hlen6, -⟩ | ⟨-, -, hgt, hle, -⟩⟩ := h
  · omega
  · exact (inLongRange_iff _).mpr ⟨hgt, hle⟩

theorem decodeValue_of_field (h : Field ds v) : decodeValue ds = some v := by
  obtain ⟨-, ⟨hlen, hlo, rfl⟩ | ⟨hlen, hlo, hgt, hle, rfl⟩⟩ := h
  · rw [decodeValue, if_pos hlen]
    exact if_pos hlo
  · rw [decodeValue, if_neg (by omega)]
    exact if_pos ⟨hlo, (inLongRange_iff _).mpr ⟨hgt, hle⟩⟩

end

/-! ### Reading the body of a token -/

theorem num_dec1 {g : Nat} (h : g ≤ 9) : num (dec1 g) = g := by
  have hdigit := num_reverse_map_digitByte (ds := [g]) (by simpa using by omega)
  simpa [dec1, Nat.ofDigits] using hdigit

theorem dec1_all_isDigit {g : Nat} (h : g ≤ 9) : (dec1 g).all isDigit = true := by
  rw [dec1, List.all_cons, isDigit_digitByte (by omega)]
  rfl

section
variable {field : List Byte} {v : Int} {g : Nat}

theorem fieldLengths_single (hf : Field field v) (g : Nat) (raster : Bool) :
    fieldLengths (field ++ dec1 g) raster = some (field.length, 0) := by
  unfold fieldLengths
  rw [List.length_append, length_dec1]
  rcases length_of_field hf with h | h <;> simp [h]

/-- The body of a vector or raster token: a field and the gear. -/
theorem parseBody_single (hf : Field field v) (hg : g ≤ 4) (suffix : Option (List Byte))
    (hs : ∀ r ∈ suffix, r.length = 3 ∧ r.all isDigit = true) :
    parseBody (field ++ dec1 g) suffix =
      some ⟨v, g, 0, 0, (suffix.map num).getD 0⟩ := by
  have hdigits : (field ++ dec1 g).all isDigit = true := by
    rw [List.all_append, isDigit_of_field hf, dec1_all_isDigit (by omega)]; rfl
  have hgear : num (((field ++ dec1 g).drop field.length).take 1) = g := by
    rw [List.drop_left, List.take_of_length_le (length_dec1 g).le, num_dec1 (by omega)]
  rw [parseBody, if_pos hdigits, fieldLengths_single hf]
  simp only [Option.bind_some, List.take_left, decodeValue_of_field hf, hgear,
    if_neg (not_lt.mpr hg)]
  cases suffix with
  | none => rfl
  | some r => exact if_pos (hs r rfl)

/-- The lengths of the two fields where the digits before the gear do not leave them open (R126). -/
theorem fieldLengths_diagonal {second st : List Byte} {d : Int} (hf : Field field v)
    (hsec : Field second d) (hst : st.length = 3) (g : Nat)
    (hopen : field.length = 6 → second.length = 11 →
      ¬inLongRange (num ((field ++ dec1 g ++ st ++ second).take 8)) = true) :
    fieldLengths (field ++ dec1 g ++ st ++ second) false =
      some (field.length, second.length) := by
  have hlen : (field ++ dec1 g ++ st ++ second).length = field.length + second.length + 4 := by
    simp only [List.length_append, length_dec1, hst]
    omega
  unfold fieldLengths
  rw [hlen]
  rcases length_of_field hf with h | h <;> rcases length_of_field hsec with h' | h' <;> rw [h, h']
  · rfl
  · simpa using hopen h h'
  · have htake : (field ++ dec1 g ++ st ++ second).take 8 = field.take 8 := by
      rw [List.append_assoc, List.append_assoc, List.take_append_of_le_length (by omega)]
    rw [htake, inLongRange_of_field hf h]
    rfl
  · rfl

/-- The body of a diagonal token: a field, the gear, the step count and the second field. -/
theorem parseBody_diagonal {second st : List Byte} {d : Int} (hf : Field field v)
    (hsec : Field second d) (hst : st.length = 3) (hstd : st.all isDigit = true) (hg : g ≤ 4)
    (hopen : field.length = 6 → second.length = 11 →
      ¬inLongRange (num ((field ++ dec1 g ++ st ++ second).take 8)) = true) :
    parseBody (field ++ dec1 g ++ st ++ second) none = some ⟨v, g, num st, d, 0⟩ := by
  have hlengths := fieldLengths_diagonal hf hsec hst g hopen
  have hdigits : (field ++ dec1 g ++ st ++ second).all isDigit = true := by
    simp only [List.all_append, isDigit_of_field hf, dec1_all_isDigit (show g ≤ 9 by omega), hstd,
      isDigit_of_field hsec, Bool.and_self]
  have hfield : (field ++ dec1 g ++ st ++ second).take field.length = field := by
    simp only [List.append_assoc, List.take_left]
  have hgear : ((field ++ dec1 g ++ st ++ second).drop field.length).take 1 = dec1 g := by
    simp only [List.append_assoc, List.drop_left]
    exact List.take_left' (length_dec1 g)
  have hsteps : ((field ++ dec1 g ++ st ++ second).drop (field.length + 1)).take 3 = st := by
    rw [List.append_assoc, List.drop_left' (by simp [length_dec1]), List.take_left' hst]
  have hsecond : ((field ++ dec1 g ++ st ++ second).drop (field.length + 4)).take second.length =
      second := by
    rw [List.drop_left' (by simp [length_dec1, hst]), List.take_length]
  have hne : second.length ≠ 0 := by have := length_of_field hsec; omega
  rw [parseBody, if_pos hdigits, Option.isSome_none, hlengths]
  simp only [Option.bind_some, hfield, decodeValue_of_field hf, hgear,
    num_dec1 (show g ≤ 9 by omega), if_neg (not_lt.mpr hg), if_neg hne, hsecond,
    decodeValue_of_field hsec, hsteps]

end

/-! ### Reading a token -/

theorem notMem_of_all_isDigit {bs : List Byte} {b : Byte} (h : bs.all isDigit = true)
    (hb : ¬isDigit b = true) : b ∉ bs := fun hmem => hb (List.all_eq_true.mp h b hmem)

theorem dropTrailingC_of_notMem {bs : List Byte} (h : 0x43 ∉ bs) : dropTrailingC bs = bs :=
  if_neg fun hlast => h (List.mem_of_getLast? hlast)

/-- A token without a `G`: digits after the `V`. -/
theorem parseToken_of_digits {t bs : List Byte} (ht : dropLeadingC t = 0x56 :: bs)
    (h : bs.all isDigit = true) : parseToken t = parseBody bs none := by
  have hC : 0x43 ∉ bs := notMem_of_all_isDigit h (by decide)
  have hG : 0x47 ∉ bs := notMem_of_all_isDigit h (by decide)
  rw [parseToken, ht]
  dsimp only
  rw [if_pos rfl, dropTrailingC_of_notMem hC, if_neg hG]

/-- A token with a `G`: digits before it and after it. -/
theorem parseToken_of_raster {t bs r : List Byte} (ht : dropLeadingC t = 0x56 :: (bs ++ 0x47 :: r))
    (h : bs.all isDigit = true) (hr : r.all isDigit = true) :
    parseToken t = parseBody bs (some r) := by
  have hC : 0x43 ∉ bs ++ 0x47 :: r := by
    simp only [List.mem_append, List.mem_cons, not_or]
    exact ⟨notMem_of_all_isDigit h (by decide), by decide, notMem_of_all_isDigit hr (by decide)⟩
  have hG : 0x47 ∈ bs ++ 0x47 :: r := by simp
  have hbs : ∀ b ∈ bs, decide (b ≠ 0x47) = true := fun b hb =>
    decide_eq_true fun hG => notMem_of_all_isDigit h (by decide : ¬isDigit 0x47 = true) (hG ▸ hb)
  rw [parseToken, ht]
  dsimp only
  rw [if_pos rfl, dropTrailingC_of_notMem hC, if_pos hG, List.takeWhile_append_of_pos hbs,
    List.dropWhile_append_of_pos hbs]
  simp

theorem parseToken_tokenVectorBytes {v : Int} (hv : decodable v) {g : Nat} (hg : g ≤ 4) :
    parseToken (tokenVectorBytes v g) = some ⟨v, g, 0, 0, 0⟩ := by
  have hdigits : (encodeValue v ++ dec1 g).all isDigit = true := by
    rw [List.all_append, encodeValue_all_isDigit, dec1_all_isDigit (by omega)]; rfl
  rw [parseToken_of_digits (t := tokenVectorBytes v g) rfl hdigits,
    parseBody_single (field_encodeValue hv) hg none nofun]
  rfl

theorem parseToken_tokenRasterBytes {v : Int} (hv : decodable v) {g r : Nat} (hg : g ≤ 4)
    (hr : r < 1000) : parseToken (tokenRasterBytes v g r) = some ⟨v, g, 0, 0, r⟩ := by
  have hdigits : (encodeValue v ++ dec1 g).all isDigit = true := by
    rw [List.all_append, encodeValue_all_isDigit, dec1_all_isDigit (by omega)]; rfl
  rw [parseToken_of_raster (t := tokenRasterBytes v g r) rfl hdigits (dec3_all_isDigit r),
    parseBody_single (field_encodeValue hv) hg (some (dec3 r))
      fun _ h => Option.some_inj.mp h ▸ ⟨length_dec3_of_lt_thousand hr, dec3_all_isDigit r⟩]
  simp [num_dec3]

theorem parseToken_tokenDiagonalBytes {v d : Int} (hv : decodable v) (hd : decodable d)
    {g st : Nat} (hg : g ≤ 4) (hst : st < 1000) (hambiguous : ¬ambiguousDiagonal v g st d) :
    parseToken (tokenDiagonalBytes v g st d) = some ⟨v, g, st, d, 0⟩ := by
  have hdigits : (encodeValue v ++ dec1 g ++ dec3 st ++ encodeValue d).all isDigit = true := by
    simp only [List.all_append, encodeValue_all_isDigit, dec1_all_isDigit (show g ≤ 9 by omega),
      dec3_all_isDigit, Bool.and_self]
  have ht : dropLeadingC (tokenDiagonalBytes v g st d) =
      0x56 :: (encodeValue v ++ dec1 g ++ dec3 st ++ encodeValue d) := by
    simp [tokenDiagonalBytes, tokenVectorBytes, dropLeadingC]
  have hopen (h6 : (encodeValue v).length = 6) (h11 : (encodeValue d).length = 11) :
      ¬inLongRange (num ((encodeValue v ++ dec1 g ++ dec3 st ++ encodeValue d).take 8)) =
        true := by
    have hv0 : 0 ≤ v := (nonneg_iff_length_encodeValue hv).mpr h6
    have hd0 : ¬0 ≤ d := fun h => by
      have := (nonneg_iff_length_encodeValue hd).mp h
      omega
    exact fun hlong => hambiguous ⟨hv0, not_le.mp hd0, hlong⟩
  rw [parseToken_of_digits ht hdigits, parseBody_diagonal (field_encodeValue hv)
    (field_encodeValue hd) (length_dec3_of_lt_thousand hst) (dec3_all_isDigit st) hg hopen,
    num_dec3]

/-! ### SPDDEC -/

theorem execSpddec_of_parse {s : State} {f : TokenFields} (h : s.fault = 0)
    (hf : parseToken s.tokenText = some f) : exec .spddec s = .next (writeTokenFields f s) := by
  change execSpddec s = _
  rw [execSpddec, runCommand_of_ok h, hf]
  rfl

/-- Settles O30: SPDDEC finds in each form the fields it was written from. -/
theorem spddecInvertsTheTokenForms : Obligations.SpddecInvertsTheTokenForms := by
  intro s v d gear steps rstep h hgear hsteps hrstep hv hd
  have hg : gear.toNat ≤ 4 := hgear
  have hst : steps.toNat < 1000 := Nat.lt_succ_of_le hsteps
  have hr : rstep.toNat < 1000 := Nat.lt_succ_of_le hrstep
  refine ⟨fun ht => ?_, fun ht => ?_, fun ht hamb => ?_⟩
  · rw [execSpddec_of_parse h (ht ▸ parseToken_tokenVectorBytes hv hg)]
    simp [writeTokenFields, wrap32]
  · rw [execSpddec_of_parse h (ht ▸ parseToken_tokenRasterBytes hv hg hr)]
    simp [writeTokenFields, wrap32]
  · rw [execSpddec_of_parse h (ht ▸ parseToken_tokenDiagonalBytes hv hd hg hst hamb)]
    simp [writeTokenFields, wrap32]

end Sys2Proof.Machine
end

section
/-! SUPPORT. The reader of the output rows, class by class (spec/30_encoding.md R80 to R95; the
reader is the model's own). -/

namespace Sys2Proof.Machine

open Sys2Proof.Claim

/-! ### Distance groups and runs -/

theorem decodeGroup_letter {r : Nat} (h1 : 1 ≤ r) (h25 : r ≤ 25) :
    decodeGroup [BitVec.ofNat 8 (0x61 + (r - 1))] = some (.dist1to25 r) := by
  have hb : (BitVec.ofNat 8 (0x61 + (r - 1))).toNat = 96 + r := by
    rw [BitVec.toNat_ofNat]; omega
  have hfull : BitVec.ofNat 8 (0x61 + (r - 1)) ≠ 122 := by rw [BitVec.toNat_ne, hb]; simp; omega
  rw [decodeGroup, if_neg hfull, if_pos (by omega), hb, Nat.add_sub_cancel_left]

theorem decodeGroup_escape {r : Nat} (h26 : 26 ≤ r) (h51 : r ≤ 51) :
    decodeGroup [0x7C, BitVec.ofNat 8 (0x61 + (r - 26))] = some (.dist26to51 r) := by
  have hb : (BitVec.ofNat 8 (0x61 + (r - 26))).toNat = 96 + (r - 25) := by
    rw [BitVec.toNat_ofNat]; omega
  have hr : 96 + (r - 25) - 96 + 25 = r := by omega
  rw [decodeGroup, if_pos ⟨rfl, by omega⟩, hb, hr]

theorem decodeGroup_digits {r : Nat} (h52 : 52 ≤ r) (h254 : r ≤ 254) :
    decodeGroup (dec3 r) = some (.dist52to254 r) := by
  have hdigits := dec3_all_isDigit r
  have hnum := num_dec3 r
  rw [dec3_of_lt_thousand (by omega)] at hdigits hnum ⊢
  rw [decodeGroup, hnum]
  exact if_pos ⟨hdigits, h52, h254⟩

theorem dirCode_dirByte {d : BitVec 3} (h1 : 1 ≤ d) (h5 : d ≤ 5) : dirCode (dirByte d) = d := by
  revert d
  decide

theorem decodeRun_runBytes {d : BitVec 3} {n : BitVec 31} (h1 : 1 ≤ d) (h5 : d ≤ 5) (hn : n ≠ 0) :
    decodeRun (runBytes d n.toNat) = some (.run d n) := by
  have hd : d ≠ 0 := by rintro rfl; exact absurd h1 (by decide)
  have hpos : 0 < n.toNat := by bv_omega
  rw [runBytes, decodeRun, decodeDistanceFrom_encodeDistance, dirCode_dirByte h1 h5]
  dsimp only
  rw [if_pos ⟨hd, rfl, hpos, n.isLt⟩, BitVec.ofNat_toNat, BitVec.setWidth_eq]

/-! ### Tokens -/

theorem length_tokenVectorBytes_lt (v d : Int) (gear steps : Nat) :
    (tokenVectorBytes v gear).length < (tokenDiagonalBytes v gear steps d).length := by
  have hst := three_le_length_dec3 steps
  rw [tokenDiagonalBytes, List.length_append, List.length_append]
  omega

theorem decodeToken_vector {v : Int} {gear : BitVec 3} (hv : decodable v) (hg : gear ≤ 4) :
    decodeToken (tokenVectorBytes v gear.toNat) = some (.tokenVector v gear) := by
  rw [decodeToken, parseToken_tokenVectorBytes hv hg, Option.bind_some, List.find?_cons_of_pos]
  · simp
  · simp [outputBytes]

theorem decodeToken_diagonal {v d : Int} {gear : BitVec 3} {steps : BitVec 10} (hv : decodable v)
    (hd : decodable d) (hg : gear ≤ 4) (hst : steps.toNat < 1000)
    (hamb : ¬ambiguousDiagonal v gear.toNat steps.toNat d) :
    decodeToken (tokenDiagonalBytes v gear.toNat steps.toNat d) =
      some (.tokenDiagonal v gear steps d) := by
  have hvector : tokenVectorBytes v gear.toNat ≠ tokenDiagonalBytes v gear.toNat steps.toNat d :=
    fun h => absurd (congrArg List.length h) (length_tokenVectorBytes_lt ..).ne
  rw [decodeToken, parseToken_tokenDiagonalBytes hv hd hg hst hamb, Option.bind_some,
    List.find?_cons_of_neg, List.find?_cons_of_pos]
  · simp
  · simp [outputBytes]
  · simp [outputBytes, hvector]

theorem decodeToken_raster {v : Int} {gear : BitVec 3} {rstep : BitVec 10} (hv : decodable v)
    (hg : gear ≤ 4) (hr : rstep.toNat < 1000) :
    decodeToken (tokenRasterBytes v gear.toNat rstep.toNat) = some (.tokenRaster v gear rstep) := by
  rw [decodeToken, parseToken_tokenRasterBytes hv hg hr, Option.bind_some,
    List.find?_cons_of_neg, List.find?_cons_of_neg, List.find?_cons_of_pos]
  · simp
  · simp [outputBytes]
  · simp [outputBytes, tokenDiagonalBytes, tokenVectorBytes, tokenRasterBytes]
  · simp [outputBytes, tokenVectorBytes, tokenRasterBytes]

/-! ### Value fields and frames -/

theorem decodeValueField_encodeValue {v : Int} (hv : decodable v) :
    decodeValueField (encodeValue v) = some (.valueField v) := by
  have hf := field_encodeValue hv
  rw [decodeValueField, if_pos ⟨length_of_field hf, isDigit_of_field hf⟩, decodeValue_of_field hf]
  rfl

theorem decodeFrame_frameOf (p : Payload) : decodeFrame (frameOf p).toList = some (.frame p) := by
  have hp : (Vector.ofFn fun i => (frameOf p).toList.getD (i + 2) 0 : Payload) = p := by
    ext i hi
    rw [Vector.getElem_ofFn, frameOf_toList]
    simp [List.getElem?_append_left, hi]
  rw [decodeFrame, hp]
  exact if_pos rfl

/-! ### All rows -/

/-- Settles O6, class by class. -/
theorem outputRowsReadBack : Obligations.OutputRowsReadBack := by
  intro c i k bs hwf hk hbs hdom
  cases i with
  | ctrlI | ctrlS | ctrl1 | ctrlE | ctrlN | ctrlR | ctrlL | ctrlB | ctrlF | ctrlAt
  | dirRight | dirLeft | dirUp | dirDown | dirDiag | laserOn | laserOff | dist255 | dist0 =>
    cases hk; cases hbs; rfl
  | dist1to25 r =>
    cases hk; cases hbs
    obtain ⟨h1, h25⟩ := of_decide_eq_true hwf
    exact decodeGroup_letter h1 h25
  | dist26to51 r =>
    cases hk; cases hbs
    obtain ⟨h26, h51⟩ := of_decide_eq_true hwf
    exact decodeGroup_escape h26 h51
  | dist52to254 r =>
    cases hk; cases hbs
    obtain ⟨h52, h254⟩ := of_decide_eq_true hwf
    exact decodeGroup_digits h52 h254
  | run d n =>
    cases hk; cases hbs
    obtain ⟨h1, h5, hn⟩ := of_decide_eq_true hwf
    exact decodeRun_runBytes h1 h5 hn
  | tokenVector v gear =>
    cases hk; cases hbs
    exact decodeToken_vector hdom (of_decide_eq_true hwf)
  | tokenDiagonal v gear steps d =>
    cases hk; cases hbs
    obtain ⟨hg, -, hst⟩ := of_decide_eq_true hwf
    obtain ⟨hv, hd, hamb⟩ := hdom
    exact decodeToken_diagonal hv hd hg (lt_of_le_of_lt hst (by decide)) hamb
  | tokenRaster v gear rstep =>
    cases hk; cases hbs
    obtain ⟨hg, -, hr⟩ := of_decide_eq_true hwf
    exact decodeToken_raster hdom hg (Nat.lt_succ_of_le hr)
  | valueField v => cases hk; cases hbs; exact decodeValueField_encodeValue hdom
  | frame p => cases hk; cases hbs; exact decodeFrame_frameOf p
  | _ => cases hk

end Sys2Proof.Machine
end

section
/-! SUPPORT. The bare relations V2S, S2V and GEARSEL and the token transport TOKCLR, TOKPUT and TOKEMIT
(spec/40_speed_codec.md R131 to R137). -/

namespace Sys2Proof.Machine

open Sys2Proof.Claim

/-! ### V2S (R131) -/

/-- The floor of a quotient of integers, the divisor of either sign. -/
theorem floor_intCast_div_intCast (n d : Int) : ((n : Rat) / (d : Rat)).floor = n.fdiv d := by
  obtain ⟨k, rfl | rfl⟩ := d.eq_nat_or_neg
  · rw [Int.fdiv_eq_ediv_of_nonneg n (Int.natCast_nonneg k), Int.cast_natCast]
    exact Rat.floor_intCast_div_natCast n k
  · have hsign : (n : Rat) / ((-(k : Int) : Int) : Rat) = ((-n : Int) : Rat) / (k : Rat) := by
      push_cast
      rw [div_neg, neg_div]
    rw [hsign, ← Int.neg_fdiv_neg, neg_neg, Int.fdiv_eq_ediv_of_nonneg _ (Int.natCast_nonneg k)]
    exact Rat.floor_intCast_div_natCast (-n) k

/-- Rounding a quotient, halves up, as one quotient of integers (00_scope.md R16). -/
theorem roundNearest_intCast_div {d : Int} (hd : d ≠ 0) (n : Int) :
    roundNearest ((n : Rat) / (d : Rat)) = (2 * n + d).fdiv (2 * d) := by
  have hq : (d : Rat) ≠ 0 := Int.cast_ne_zero.mpr hd
  have hhalf : (n : Rat) / (d : Rat) + 1 / 2 =
      ((2 * n + d : Int) : Rat) / ((2 * d : Int) : Rat) := by
    push_cast
    field_simp
  rw [roundNearest, hhalf, floor_intCast_div_intCast]

/-- `sat_32` by its three cases (00_scope.md R14). -/
theorem sat32_eq (x : Int) :
    sat32 x = if x < -2147483648 then -2147483648 else if 2147483647 < x then 2147483647 else x := by
  unfold sat32
  split_ifs <;> omega

theorem sext32_eq_zero_iff (w : Word32) : sext32 w = 0 ↔ w = 0 := by
  rw [sext32, ← BitVec.toInt_inj]
  rfl

/-- V2S in integers: `25400 m / den` rounded and clamped, 0 where there is no quotient. -/
theorem valueToSpeed_eq (value b m : Int) :
    valueToSpeed value b m =
      if m = 0 ∨ 1000 * value - b = 0 then 0
      else sat32 ((50800 * m + (1000 * value - b)).fdiv (2 * (1000 * value - b))) := by
  rw [valueToSpeed]
  refine ite_congr rfl (fun _ => rfl) fun hnz => ?_
  obtain ⟨-, hden⟩ := not_or.mp hnz
  have hnum : 2 * (25400 * m) = 50800 * m := by omega
  rw [roundNearest_intCast_div hden, hnum]

/-- Settles O31: the quotient is rounded, then clamped, then narrowed. -/
theorem v2sResult : Obligations.V2sResult := by
  refine ⟨fun w h => by simp only [decode, h] <;> rfl, fun value b m s h => ?_⟩
  change execV2s value b m s = _
  simp only [execV2s, runCommand_of_ok h, Flow.state_go, valueToSpeed_eq, sext32_eq_zero_iff, sat32_eq]
  rw [apply_ite wrap32]
  rfl

/-! ### S2V and GEARSEL (R132, R133) -/

/-- Settles O32, by the integer form of the linear value. -/
theorem s2vResult : Obligations.S2vResult := by
  refine ⟨fun w h => by simp only [decode, h] <;> rfl, fun feed b m s h => ?_⟩
  change execS2v feed b m s = _
  rw [execS2v, runCommand_of_ok h, ← registerValueInIntegers]
  rfl

theorem bit_iff (b : BitVec 1) : bit b = true ↔ b = 1 := beq_iff_eq

/-- The bands of R113 above the two that both modes share. -/
theorem gearFor_of_gt {feed : Nat} (h : 60000 < feed) (raster : Bool) :
    gearFor feed raster =
      if feed < 127000 then (if raster then 2 else 3)
      else if feed ≤ 320000 then (if raster then 3 else 4) else 4 := by
  rw [gearFor, if_neg (by omega), if_neg (by omega)]
  cases raster <;> simp

/-- Settles O33, band by band. -/
theorem gearselFollowsTheBandTable : Obligations.GearselFollowsTheBandTable := by
  refine ⟨fun w h => by simp only [decode, h] <;> rfl, fun raster feed s h => ?_⟩
  have hexec : exec (.gearsel raster feed) s = execGearsel raster feed s := rfl
  rw [hexec, execGearsel, runCommand_of_ok h]
  refine ⟨gearFor feed.toNat (bit raster), rfl, fun h1 => if_pos h1, fun h1 h2 => ?_,
    fun h2 h3 => ?_, fun h3 h4 => ?_, fun h4 => ?_⟩
  · rw [gearFor, if_neg (by omega), if_pos h2]
  · simp only [gearFor_of_gt h2, if_pos h3, bit_iff]
  · rw [gearFor_of_gt (by omega), if_neg (by omega), if_pos h4]
    simp only [bit_iff]
  · rw [gearFor_of_gt (by omega), if_neg (by omega), if_neg (by omega)]

/-! ### Token transport (R135 to R137) -/

/-- Settles O34. -/
theorem tokclrEmptiesTheToken : Obligations.TokclrEmptiesTheToken := by
  refine ⟨fun w h => by simp only [decode, h] <;> rfl, fun s h => ?_⟩
  change execTokclr s = _
  rw [execTokclr, runCommand_of_ok h]
  rfl

/-- A byte pushed below the end of the buffer. -/
theorem pushToken_of_lt {s : State} (h : s.tokLen.toNat < 32) (b : Byte) :
    pushToken b s = { s with tok := s.tok.set s.tokLen.toNat b h, tokLen := s.tokLen + 1 } := by
  have hset : s.tok.setIfInBounds s.tokLen.toNat b = s.tok.set s.tokLen.toNat b h := by
    ext i hi
    rw [Vector.getElem_setIfInBounds, Vector.getElem_set]
  rw [pushToken, hset]

/-- Settles O35, by whether the buffer is full. -/
theorem tokputAppendsOrFaults : Obligations.TokputAppendsOrFaults := by
  refine ⟨fun w h => by simp only [decode, h] <;> rfl, fun b s h => ?_⟩
  have hexec : exec (.tokput b) s = execTokput b s := rfl
  rw [hexec, execTokput]
  refine ⟨fun hlt => ?_, fun hfull => ?_⟩
  · have hfree : s.tokLen ≠ 32 := fun hfull => by simp [hfull] at hlt
    rw [runCommand_of_ok h, if_neg hfree, Flow.state_go, pushToken_of_lt hlt]
  · refine runCommand_raise (c := .illegalCommand) (info := 0x19) h ?_
    exact if_pos hfull

/-- Settles O36: the token text is emitted as a list. -/
theorem tokemitAppendsTheToken : Obligations.TokemitAppendsTheToken := by
  refine ⟨fun w h => by simp only [decode, h] <;> rfl, fun s h => ?_⟩
  have hexec : exec .tokemit s = execTokemit s := rfl
  rw [hexec, execTokemit, runCommand_of_ok h]
  exact ⟨_, rfl, rfl, emitList_egv _ s, emitList_eq_withStreamsOf _ s⟩

end Sys2Proof.Machine
end

section
/-! SUPPORT. What SPDENC writes (spec/40_speed_codec.md R110 to R122). -/

namespace Sys2Proof.Machine

open Sys2Proof.Claim

/-! ### The token buffer -/

/-- What `MemWrite` puts at the start of TOK is the token text. -/
theorem tokenText_writeToken {bs : List Byte} (h : bs.length ≤ 32) (s : State) :
    (writeToken bs s).tokenText = bs := by
  have hlen : (BitVec.ofNat 6 bs.length).toNat = bs.length := by
    rw [BitVec.toNat_ofNat]
    omega
  rw [State.tokenText, writeToken_tokLen, hlen]
  refine List.ext_getElem (by simpa [writeToken] using h) fun i hi hi' => ?_
  simp [writeToken, hi']

@[simp] theorem writeSpeedToken_tok (t : SpeedToken) (r : BitVec 10) (s : State) :
    (writeSpeedToken t r s).tok = (writeToken t.text s).tok := rfl

@[simp] theorem writeSpeedToken_tokLen (t : SpeedToken) (r : BitVec 10) (s : State) :
    (writeSpeedToken t r s).tokLen = (writeToken t.text s).tokLen := rfl

theorem tokenText_writeSpeedToken {t : SpeedToken} (h : t.text.length ≤ 32) (r : BitVec 10)
    (s : State) : (writeSpeedToken t r s).tokenText = t.text := by
  rw [State.tokenText, writeSpeedToken_tok, writeSpeedToken_tokLen]
  exact tokenText_writeToken h s

theorem toNat_tokLen_writeSpeedToken {t : SpeedToken} (h : t.text.length ≤ 32) (r : BitVec 10)
    (s : State) : (writeSpeedToken t r s).tokLen.toNat = t.text.length := by
  rw [writeSpeedToken_tokLen, writeToken_tokLen, BitVec.toNat_ofNat]
  omega

/-! ### The command -/

/-- Where BOARD_TABLE has no entry SPDENC raises IllegalCommand (R110). -/
theorem runCommand_spdenc_of_no_entry {c : Params} {board : BitVec 4} {s : State}
    (h : s.fault = 0) (hbt : c.boardTable board = none) (fgv : BitVec 1) (fgear : BitVec 3)
    (rstep : BitVec 10) (feed ratio : Word32) :
    runCommand (spdenc c board fgv fgear rstep feed ratio) s = .next (withFault 4 0x10 s) := by
  refine runCommand_raise (c := .illegalCommand) (info := 0x10) h ?_
  rw [spdenc, hbt]

/-- Where it has one and the fields are legal SPDENC writes its token (R110, R122). -/
theorem runCommand_spdenc_of_entry {c : Params} {board : BitVec 4} {bt : Board} {fgv : BitVec 1}
    {fgear : BitVec 3} {rstep : BitVec 10} {s : State} (h : s.fault = 0)
    (hbt : c.boardTable board = some bt) (hlegal : spdencFieldsLegal fgv fgear rstep = true)
    (feed ratio : Word32) :
    runCommand (spdenc c board fgv fgear rstep feed ratio) s =
      .next (writeSpeedToken (speedToken c bt fgv fgear rstep feed ratio) rstep s) := by
  rw [runCommand_of_ok h, spdenc, hbt]
  simp only [if_pos hlegal, Flow.state_go]

/-! ### The numbers of the token -/

/-- The low-speed override picks gear 0 of the same table (R114, R115). -/
theorem coefFor_eq_gearPair (c : Params) (bt : Board) (gear : BitVec 3) (feed : Nat) :
    coefFor c bt gear feed = gearPair c bt gear feed := by
  unfold coefFor belowLowLimit gearPair
  cases bt.lowLimitMilli with
  | none => rfl
  | some l => simp only [decide_eq_true_eq, apply_ite (c.gearLut bt.family)]

/-- The rounded linear value is R117's quotient. -/
theorem roundReg_linValue (c : Params) (feed : Nat) (b m : Int) :
    roundReg c (linValue feed b m) = registerValue c.roundBiasMilli feed b m :=
  registerValueInIntegers c feed b m

theorem clampFeed_raster (feed : Nat) : clampFeed feed true = feed := if_neg fun h => nomatch h.2

theorem clampFeed_vector (feed : Nat) :
    clampFeed feed false = if 240000 < feed then 19050 else feed := by
  rw [clampFeed]
  exact if_congr (and_iff_left rfl) rfl rfl

section
variable (c : Params) (bt : Board) (fgv : BitVec 1) (fgear : BitVec 3) (feed ratio : Word32)

/-- The token of raster mode (R119). -/
theorem speedToken_raster {rstep : BitVec 10} (hr : rstep ≠ 0) :
    speedToken c bt fgv fgear rstep feed ratio =
      let gear := if fgv = 1 then fgear else gearFor feed.toNat true
      let k := gearPair c bt gear feed.toNat
      let v := registerValue c.roundBiasMilli feed.toNat k.bMilli.toInt k.mMilli.toInt
      ⟨tokenRasterBytes v gear.toNat rstep.toNat, v, gear, 0, 0⟩ := by
  have hraster : decide (rstep ≠ 0) = true := decide_eq_true hr
  simp only [speedToken, hraster, if_true, clampFeed_raster, bit_iff, coefFor_eq_gearPair,
    roundReg_linValue, zext, sext32]

/-- The token of vector mode (R120, R121). -/
theorem speedToken_vector :
    speedToken c bt fgv fgear 0 feed ratio =
      let F := if 240000 < feed.toNat then 19050 else feed.toNat
      let gear := if fgv = 1 then fgear else gearFor F false
      let k := gearPair c bt gear F
      let v := registerValue c.roundBiasMilli F k.bMilli.toInt k.mMilli.toInt
      let steps := min (F / 1000 + 1) 128
      let d := roundReg c (c.diagCorr ratio.toNat steps (-k.mMilli.toInt) F)
      if 0 < ratio.toNat ∧ bt.noDiag = false then
        ⟨tokenDiagonalBytes v gear.toNat steps d, v, gear, steps, d⟩
      else ⟨tokenVectorBytes v gear.toNat, v, gear, 0, 0⟩ := by
  have hvector : decide ((0 : BitVec 10) ≠ 0) = false := rfl
  simp only [speedToken, hvector, Bool.false_eq_true, if_false, clampFeed_vector, bit_iff,
    coefFor_eq_gearPair, roundReg_linValue, stepCount, zext, sext32]

end

/-! ### Both modes -/

/-- Settles O26, by whether the board has an entry. -/
theorem spdencWritesTheRasterToken : Obligations.SpdencWritesTheRasterToken := by
  intro board fgv fgear rstep feed ratio s h hg hr0 hr
  have hcommand (c : Params) :
      ∃ t, runCommand (spdenc c board fgv fgear rstep feed ratio) s = .next t ∧
        RasterTokenWritten c board fgv fgear rstep feed s t := by
    unfold RasterTokenWritten
    cases hbt : c.boardTable board with
    | none => exact ⟨_, runCommand_spdenc_of_no_entry h hbt _ _ _ _ _, rfl⟩
    | some bt =>
      have hlegal := (spdencFieldsLegal_iff fgv fgear rstep).mpr ⟨hg, hr⟩
      obtain ⟨-, -, hlen⟩ := speedToken_bounds c bt fgv fgear rstep feed ratio hg hr
      refine ⟨_, runCommand_spdenc_of_entry h hbt hlegal feed ratio, ?_⟩
      rw [tokenText_writeSpeedToken hlen, toNat_tokLen_writeSpeedToken hlen,
        speedToken_raster c bt fgv fgear feed ratio hr0]
      exact ⟨rfl, rfl, writeSpeedToken_eq _ _ _⟩
  exact ⟨hcommand Config.params, hcommand⟩

/-- Settles O27, by whether the board has an entry and whether the token has a suffix. -/
theorem spdencWritesTheVectorToken : Obligations.SpdencWritesTheVectorToken := by
  intro board fgv fgear feed ratio s h hg
  have hcommand (c : Params) :
      ∃ t, runCommand (spdenc c board fgv fgear 0 feed ratio) s = .next t ∧
        VectorTokenWritten c board fgv fgear feed ratio s t := by
    unfold VectorTokenWritten
    cases hbt : c.boardTable board with
    | none => exact ⟨_, runCommand_spdenc_of_no_entry h hbt _ _ _ _ _, rfl⟩
    | some bt =>
      have hr : (0 : BitVec 10) ≤ 999 := by decide
      have hlegal := (spdencFieldsLegal_iff fgv fgear 0).mpr ⟨hg, hr⟩
      obtain ⟨-, -, hlen⟩ := speedToken_bounds c bt fgv fgear 0 feed ratio hg hr
      refine ⟨_, runCommand_spdenc_of_entry h hbt hlegal feed ratio, ?_⟩
      dsimp only
      rw [tokenText_writeSpeedToken hlen, toNat_tokLen_writeSpeedToken hlen, speedToken_vector]
      refine ⟨rfl, ?_⟩
      by_cases hsuffix : 0 < ratio.toNat ∧ bt.noDiag = false
      · simp only [if_pos hsuffix]
        exact ⟨rfl, writeSpeedToken_eq _ _ _⟩
      · simp only [if_neg hsuffix]
        exact ⟨rfl, writeSpeedToken_eq _ _ _⟩
  exact ⟨hcommand Config.params, hcommand⟩

end Sys2Proof.Machine
end

section
/-! SUPPORT. SPDDEC accepts exactly the grammar (spec/30_encoding.md R93; 40_speed_codec.md R125 to
R129). -/

namespace Sys2Proof.Machine

open Sys2Proof.Claim

/-! ### The markers around the body -/

/-- A first `C` and a last `C` change nothing (R125). -/
theorem parseToken_of_marked {lead body trail : List Byte} (hlead : lead = [] ∨ lead = [0x43])
    (htrail : trail = [] ∨ trail = [0x43]) (hC : 0x43 ∉ body) :
    parseToken (lead ++ 0x56 :: (body ++ trail)) = parseToken (0x56 :: body) := by
  have hdropLead : dropLeadingC (lead ++ 0x56 :: (body ++ trail)) = 0x56 :: (body ++ trail) := by
    rcases hlead with rfl | rfl <;> rfl
  have hdropTrail : dropTrailingC (body ++ trail) = dropTrailingC body := by
    rw [dropTrailingC_of_notMem hC]
    rcases htrail with rfl | rfl
    · rw [List.append_nil, dropTrailingC_of_notMem hC]
    · rw [dropTrailingC, List.getLast?_concat, if_pos rfl, List.dropLast_concat]
  have hbare : dropLeadingC (0x56 :: body) = 0x56 :: body := rfl
  simp only [parseToken, hdropLead, hdropTrail, hbare]

theorem exists_lead (t : List Byte) :
    ∃ lead, (lead = [] ∨ lead = [0x43]) ∧ t = lead ++ dropLeadingC t := by
  cases t with
  | nil => exact ⟨[], .inl rfl, rfl⟩
  | cons b bs =>
    by_cases hb : b = 0x43
    · exact ⟨[0x43], .inr rfl, by rw [dropLeadingC, if_pos hb, hb]; rfl⟩
    · exact ⟨[], .inl rfl, by rw [dropLeadingC, if_neg hb]; rfl⟩

theorem exists_trail (bs : List Byte) :
    ∃ trail, (trail = [] ∨ trail = [0x43]) ∧ bs = dropTrailingC bs ++ trail := by
  by_cases hlast : bs.getLast? = some 0x43
  · refine ⟨[0x43], .inr rfl, ?_⟩
    rw [dropTrailingC, if_pos hlast]
    exact (List.dropLast_append_getLast? _ hlast).symm
  · exact ⟨[], .inl rfl, by rw [dropTrailingC, if_neg hlast, List.append_nil]⟩

/-! ### A body of the grammar is read -/

theorem parseToken_of_body {body : List Byte} {f : TokenFields} (h : Body body f) :
    0x43 ∉ body ∧ parseToken (0x56 :: body) = some f := by
  obtain ⟨field, gear, hfield, rfl, hg, hforms⟩ := h
  have hgear := dec1_all_isDigit (show f.gear ≤ 9 by omega)
  have hhead : (field ++ dec1 f.gear).all isDigit = true := by
    rw [List.all_append, isDigit_of_field hfield, hgear]; rfl
  have hCdigit : ¬isDigit 0x43 = true := by decide
  obtain ⟨value, g, steps, diag, rstep⟩ := f
  obtain ⟨rfl, rfl, rfl, rfl⟩ | ⟨r, rfl, hlen, hr, rfl, rfl, rfl⟩ |
    ⟨st, second, rfl, hlen, hst, hsecond, rfl, rfl, hlong⟩ := hforms
  · refine ⟨notMem_of_all_isDigit hhead hCdigit, ?_⟩
    rw [parseToken_of_digits rfl hhead, parseBody_single hfield hg none nofun]
    rfl
  · refine ⟨?_, ?_⟩
    · rw [List.mem_append, List.mem_cons, not_or, not_or]
      exact ⟨notMem_of_all_isDigit hhead hCdigit, by decide, notMem_of_all_isDigit hr hCdigit⟩
    · rw [parseToken_of_raster rfl hhead hr, parseBody_single hfield hg (some r)
        fun _ hmem => Option.some_inj.mp hmem ▸ ⟨hlen, hr⟩]
      rfl
  · have hall : (field ++ dec1 g ++ st ++ second).all isDigit = true := by
      rw [List.all_append, List.all_append, hhead, hst, isDigit_of_field hsecond]; rfl
    refine ⟨notMem_of_all_isDigit hall hCdigit, ?_⟩
    rw [parseToken_of_digits rfl hall, parseBody_diagonal hfield hsecond hlen hst hg]
    intro h6 h11 hin
    have h11' := (hlong (by omega)).mpr ((inLongRange_iff _).mp hin)
    omega

/-- A token of the grammar is read as the fields it stands for. -/
theorem parseToken_of_grammar {t : List Byte} {f : TokenFields} (h : Grammar t f) :
    parseToken t = some f := by
  obtain ⟨lead, body, trail, rfl, hlead, htrail, hbody⟩ := h
  obtain ⟨hC, hparse⟩ := parseToken_of_body hbody
  rw [parseToken_of_marked hlead htrail hC, hparse]

/-! ### What is read is a body of the grammar -/

/-- Digits that are read as a value are a field of that value (R127). -/
theorem field_of_decodeValue {ds : List Byte} {v : Int} (hdigits : ds.all isDigit = true)
    (hlen : ds.length = 6 ∨ ds.length = 11) (h : decodeValue ds = some v) : Field ds v := by
  refine ⟨hdigits, ?_⟩
  rcases hlen with hlen | hlen
  · rw [decodeValue, if_pos hlen] at h
    obtain ⟨hlo, hv⟩ := Option.ite_none_right_eq_some.mp h
    exact .inl ⟨hlen, hlo, (Option.some_inj.mp hv).symm⟩
  · rw [decodeValue, if_neg (by omega)] at h
    obtain ⟨⟨hlo, hrange⟩, hv⟩ := Option.ite_none_right_eq_some.mp h
    obtain ⟨hgt, hle⟩ := (inLongRange_iff _).mp hrange
    exact .inr ⟨hlen, hlo, hgt, hle, (Option.some_inj.mp hv).symm⟩

/-- The lengths R126 finds: one field and the gear, or two fields around the gear and the step
count, which is the longer first where the digits leave both open and begin with a long field. -/
theorem fieldLengths_cases {ds : List Byte} {raster : Bool} {l1 l2 : Nat}
    (h : fieldLengths ds raster = some (l1, l2)) :
    (l1 = 6 ∨ l1 = 11) ∧
      ((l2 = 0 ∧ ds.length = l1 + 1) ∨
        (raster = false ∧ (l2 = 6 ∨ l2 = 11) ∧ ds.length = l1 + 4 + l2 ∧
          (l1 + l2 = 17 → (l1 = 11 ↔ inLongRange (num (ds.take 8)) = true)))) := by
  unfold fieldLengths at h
  split_ifs at h with h7 h12 hr h16 h26 h21 hlong <;> cases h
  · exact ⟨.inl rfl, .inl ⟨rfl, h7⟩⟩
  · exact ⟨.inr rfl, .inl ⟨rfl, h12⟩⟩
  · exact ⟨.inl rfl, .inr ⟨by simpa using hr, .inl rfl, h16, by omega⟩⟩
  · exact ⟨.inr rfl, .inr ⟨by simpa using hr, .inr rfl, h26, by omega⟩⟩
  · exact ⟨.inr rfl, .inr ⟨by simpa using hr, .inl rfl, h21, fun _ => iff_of_true rfl hlong⟩⟩
  · exact ⟨.inl rfl, .inr ⟨by simpa using hr, .inr rfl, h21, fun _ => iff_of_false (by omega) hlong⟩⟩

/-- One digit is the digit of its number. -/
theorem eq_dec1_num {ds : List Byte} (hlen : ds.length = 1) (h : ds.all isDigit = true) :
    ds = dec1 (num ds) := by
  obtain ⟨b, rfl⟩ := List.length_eq_one_iff.mp hlen
  have hb : 0x30 ≤ b.toNat ∧ b.toNat ≤ 0x39 := (isDigit_iff b).mp (by simpa using h)
  have hnum : num [b] = b.toNat - 0x30 := by simp [num]
  have hbyte : digitByte (b.toNat - 0x30) = b := by
    rw [digitByte, Nat.add_sub_cancel' hb.1, BitVec.ofNat_toNat, BitVec.setWidth_eq]
  rw [hnum, dec1, hbyte]

/-- Digits longer than their first field: the field, the gear digit and what follows. -/
theorem eq_field_gear_rest {ds : List Byte} (hdigits : ds.all isDigit = true) {l : Nat}
    (hlen : l < ds.length) :
    ds = ds.take l ++ dec1 (num ((ds.drop l).take 1)) ++ ds.drop (l + 1) := by
  have hone : ((ds.drop l).take 1).length = 1 := by
    rw [List.length_take, List.length_drop]
    omega
  rw [← eq_dec1_num hone (all_isDigit_take_drop hdigits l 1), List.append_assoc, ← List.drop_drop,
    List.take_append_drop, List.take_append_drop]

/-- What follows the gear digit of a diagonal token: the step count and the second field. -/
theorem eq_steps_second {ds : List Byte} {l l2 : Nat} (hlen : ds.length = l + 4 + l2) :
    ds.drop (l + 1) = (ds.drop (l + 1)).take 3 ++ (ds.drop (l + 4)).take l2 := by
  have hsecond : (ds.drop (l + 4)).take l2 = ds.drop (l + 4) :=
    List.take_of_length_le (by rw [List.length_drop]; omega)
  conv_lhs => rw [← List.take_append_drop 3 (ds.drop (l + 1)), List.drop_drop]
  rw [hsecond]

/-- What is read is a body of the grammar, with `G` and the bytes after it where there is one. -/
theorem body_of_parseBody {ds : List Byte} {suffix : Option (List Byte)} {f : TokenFields}
    (h : parseBody ds suffix = some f) : Body (ds ++ suffix.elim [] (0x47 :: ·)) f := by
  unfold parseBody at h
  obtain ⟨hdigits, h⟩ := Option.ite_none_right_eq_some.mp h
  obtain ⟨⟨l1, l2⟩, hlengths, h⟩ := Option.bind_eq_some_iff.mp h
  obtain ⟨value, hvalue, h⟩ := Option.bind_eq_some_iff.mp h
  obtain ⟨hgear, h⟩ := Option.ite_none_left_eq_some.mp h
  obtain ⟨hl1, hrest⟩ := fieldLengths_cases hlengths
  have hg := not_lt.mp hgear
  have hlt : l1 < ds.length := by omega
  have htake : (ds.take l1).length = l1 := List.length_take_of_le hlt.le
  have hfield : Field (ds.take l1) value :=
    field_of_decodeValue (by simpa using all_isDigit_take_drop hdigits 0 l1) (by omega) hvalue
  have hsplit := eq_field_gear_rest hdigits hlt
  have hsingle (hl : ds.length = l1 + 1) :
      ds = ds.take l1 ++ dec1 (num ((ds.drop l1).take 1)) := by
    rwa [List.drop_of_length_le hl.le, List.append_nil] at hsplit
  cases suffix with
  | some r =>
    obtain ⟨⟨hlen, hr⟩, hf⟩ := Option.ite_none_right_eq_some.mp h
    cases hf
    obtain ⟨-, hl⟩ | ⟨hraster, -⟩ := hrest
    · exact ⟨_, _, hfield, rfl, hg,
        .inr (.inl ⟨r, congrArg (· ++ 0x47 :: r) (hsingle hl), hlen, hr, rfl, rfl, rfl⟩)⟩
    · cases hraster
  | none =>
    dsimp only at h
    rw [Option.elim_none, List.append_nil]
    split at h
    case isTrue hl2 =>
      cases h
      exact ⟨_, _, hfield, rfl, hg, .inl ⟨hsingle (by omega), rfl, rfl, rfl⟩⟩
    case isFalse hl2 =>
      obtain ⟨diag, hdiag, hf⟩ := Option.bind_eq_some_iff.mp h
      cases hf
      obtain ⟨hl2', -⟩ | ⟨-, hl2', hl, hlong⟩ := hrest
      · exact absurd hl2' hl2
      · have hlen2 : ((ds.drop (l1 + 4)).take l2).length = l2 :=
          List.length_take_of_le (by rw [List.length_drop]; omega)
        rw [eq_steps_second hl, ← List.append_assoc] at hsplit
        refine ⟨_, _, hfield, rfl, hg, .inr (.inr ⟨_, _, hsplit, ?_,
          all_isDigit_take_drop hdigits _ _, ?_, rfl, rfl, ?_⟩)⟩
        · exact List.length_take_of_le (by rw [List.length_drop]; omega)
        · exact field_of_decodeValue (all_isDigit_take_drop hdigits _ _) (by omega) hdiag
        · rw [htake, hlen2, ← inLongRange_iff]
          exact hlong

/-- What is read is a token of the grammar. -/
theorem grammar_of_parseToken {t : List Byte} {f : TokenFields} (h : parseToken t = some f) :
    Grammar t f := by
  obtain ⟨lead, hlead, ht⟩ := exists_lead t
  unfold parseToken at h
  cases hdrop : dropLeadingC t with
  | nil => rw [hdrop] at h; cases h
  | cons b rest =>
    rw [hdrop] at h ht
    dsimp only at h
    obtain ⟨rfl, hread⟩ := Option.ite_none_right_eq_some.mp h
    obtain ⟨trail, htrail, hrest⟩ := exists_trail rest
    refine ⟨lead, dropTrailingC rest, trail, hrest ▸ ht, hlead, htrail, ?_⟩
    split at hread
    case isTrue hG =>
      obtain ⟨ds, r, hbody, hds⟩ := List.eq_append_cons_of_mem hG
      have hne : ∀ b ∈ ds, decide (b ≠ 0x47) = true := fun b hb =>
        decide_eq_true fun hb' => hds (hb' ▸ hb)
      rw [hbody, List.takeWhile_append_of_pos hne, List.dropWhile_append_of_pos hne] at hread
      have hparse : parseBody ds (some r) = some f := by simpa using hread
      rw [hbody]
      exact body_of_parseBody hparse
    case isFalse hG => simpa using body_of_parseBody hread

/-! ### SPDDEC -/

theorem execSpddec_of_malformed {s : State} (h : s.fault = 0)
    (hparse : parseToken s.tokenText = none) :
    exec .spddec s = .next (withFault 3 (s.tokLen.setWidth 32) s) := by
  change execSpddec s = _
  rw [execSpddec, ← wrap32_toNat]
  refine runCommand_raise (c := .malformedToken) h ?_
  rw [hparse]

/-- Settles O29: the reader and the grammar agree on every text. -/
theorem spddecAcceptsExactlyTheGrammar : Obligations.SpddecAcceptsExactlyTheGrammar := by
  refine fun s h => ⟨fun f hf => ?_, fun hnone => ?_⟩
  · exact execSpddec_of_parse h (parseToken_of_grammar hf)
  · refine execSpddec_of_malformed h (Option.eq_none_iff_forall_ne_some.mpr fun f hf => ?_)
    exact hnone f (grammar_of_parseToken hf)

end Sys2Proof.Machine
end

section
/-! SUPPORT. The commands EMIT, FLUSH and DIST (spec/41_motion_encoder.md R150, R153, R157 to R159;
20_memory.md R56). -/

namespace Sys2Proof.Machine

open Sys2Proof.Claim

/-! ### EMIT (R158) -/

theorem setIfInBounds_of_lt {n i : Nat} (v : Vector Byte n) (b : Byte) (h : i < n) :
    v.setIfInBounds i b = v.set i b h := by
  ext j hj
  rw [Vector.getElem_setIfInBounds, Vector.getElem_set]

theorem exec_emit_of_ok {s : State} (h : s.fault = 0) (b : Byte) :
    exec (.emit b) s = .next (emit b s) :=
  runCommand_of_ok (body := fun s => .go () (emit b s)) h

/-- Settles O37, by whether the byte fills the frame. -/
theorem emitFeedsStreamAndFrameBuffer : Obligations.EmitFeedsStreamAndFrameBuffer := by
  refine ⟨fun w hop => by rw [decode, hop]; rfl, fun b s h => ?_⟩
  rw [exec_emit_of_ok h]
  refine ⟨fun hlt => ?_, fun hfull => ?_⟩
  · rw [emit_of_lt hlt, appendByte, setIfInBounds_of_lt]
  · have hcnt : s.fcnt.toNat = 29 := by rw [hfull]; rfl
    rw [emit_of_full hfull, emitFrame, appendByte, hcnt, setIfInBounds_of_lt]

/-! ### FLUSH (R153, R157) -/

theorem exec_flush_of_ok {s : State} (h : s.fault = 0) : exec .flush s = .next (flush s) :=
  runCommand_of_ok (body := fun s => .go () (flush s)) h

theorem flush_flush (s : State) : flush (flush s) = flush s := flush_of_idle (flush_mDist s)

/-- Settles O45: no run is pending after the first FLUSH, and a refused one is refused again. -/
theorem flushEmitsThePendingRunOnce : Obligations.FlushEmitsThePendingRunOnce := by
  refine ⟨fun w hop => by rw [decode, hop]; rfl, fun s h => exec_flush_of_ok h,
    fun s t hexec => ?_⟩
  by_cases h : s.fault = 0
  · rw [exec_flush_of_ok h] at hexec
    cases hexec
    rw [exec_flush_of_ok ((flush_fault s).trans h), flush_flush]
  · have hrefused : exec .flush s = .next s := exec_of_faulted nofun h
    rw [hrefused] at hexec
    cases hexec
    exact hrefused

/-! ### DIST (R150, R159) -/

theorem sext32_of_nonneg {n : Word32} (h : 0 ≤ sext32 n) : sext32 n = n.toNat :=
  BitVec.toInt_eq_toNat_of_lt (BitVec.toInt_pos_iff.mp h)

/-- Settles O46, by the sign of the distance. -/
theorem distEmitsTheDistanceCode : Obligations.DistEmitsTheDistanceCode := by
  refine ⟨fun w hop => by rw [decode, hop]; rfl, fun n s h => ?_⟩
  have hexec : exec (.dist n) s = execDist n s := rfl
  rw [hexec, execDist]
  refine ⟨fun (hn : 0 ≤ sext32 n) => ?_, fun hn => ?_⟩
  · rw [runCommand_of_ok h, if_neg (not_lt.mpr hn), Flow.state_go, sext32_of_nonneg hn,
      Int.toNat_natCast, encodeDistance_eq_distanceBytes]
  · conv_rhs => rw [← wrap32_sext32 n]
    exact runCommand_raise (c := .invalidDistance) h (if_pos hn)

end Sys2Proof.Machine
end

section
/-! SUPPORT. MOVE: more ticks in the pending run or a new run, the bytes a new run emits, and the
coalescing of moves in one state (spec/41_motion_encoder.md R152 to R156, R160). -/

namespace Sys2Proof.Machine

open Sys2Proof.Claim

/-! ### Ticks -/

theorem ofInt_sext32 (n : Word32) : BitVec.ofInt 31 (sext32 n) = n.setWidth 31 :=
  BitVec.signExtend_eq_setWidth_of_le n (by decide)

/-- A count of ticks that MDIST can hold is held exactly. -/
theorem toNat_ofInt_of_fits {n : Int} (h0 : 0 ≤ n) (h : n ≤ 2147483647) :
    ((BitVec.ofInt 31 n).toNat : Int) = n := by
  rw [BitVec.toNat_ofInt]
  omega

/-- The pending run with `n` ticks more. -/
theorem ofInt_toNat_add (m : BitVec 31) (n : Word32) :
    BitVec.ofInt 31 (m.toNat + sext32 n) = m + n.setWidth 31 := by
  rw [BitVec.ofInt_add, BitVec.ofInt_natCast, BitVec.ofNat_toNat, BitVec.setWidth_eq, ofInt_sext32]

theorem sext32_le (n : Word32) : sext32 n ≤ 2147483647 := Int.le_of_lt_add_one BitVec.toInt_lt

theorem sext32_add {a b : Word32} (ha : 0 ≤ sext32 a) (hb : 0 ≤ sext32 b)
    (h : sext32 a + sext32 b ≤ 2147483647) : sext32 (a + b) = sext32 a + sext32 b := by
  rw [sext32, BitVec.toInt_add]
  exact Int.bmod_eq_of_le (by unfold sext32 at ha hb; omega) (by unfold sext32 at h; omega)

/-! ### Which branch of `Move` runs (R152) -/

section
variable {dir : BitVec 3} {dist : Int} {laser : BitVec 1} {ax ay : BitVec 2} {s : State}

/-- The move is one in the modal state: `Move` adds to the pending run (R152). -/
def ContinuesRun (dir : BitVec 3) (laser : BitVec 1) (ax ay : BitVec 2) (s : State) : Prop :=
  dir = s.mDir ∧ laser = s.mLaser ∧ keepOr ax s.mAx = s.mAx ∧ keepOr ay s.mAy = s.mAy

theorem keepOr_eq_modal_iff (operand modal : BitVec 2) :
    keepOr operand modal = modal ↔ operand = 0 ∨ operand = modal := by
  unfold keepOr
  split
  case isTrue h0 => exact iff_of_true rfl (.inl h0)
  case isFalse h0 => exact (or_iff_right h0).symm

theorem keepOr_cases {operand : BitVec 2} (h : operand ≠ 3) (modal : BitVec 2) :
    keepOr operand modal = modal ∨ keepOr operand modal = 1 ∨ keepOr operand modal = 2 := by
  unfold keepOr
  split
  · exact .inl rfl
  · bv_omega

theorem move_of_fits (hrun : ContinuesRun dir laser ax ay s) (h0 : 0 ≤ dist)
    (hfits : (s.mDist.toNat : Int) + dist ≤ 2147483647) :
    move dir dist laser ax ay s = .go () { s with mDist := BitVec.ofInt 31 (s.mDist.toNat + dist) } :=
  (if_neg (not_lt.mpr h0)).trans <| (if_pos hrun).trans <| if_neg (not_lt.mpr hfits)

theorem move_of_overflow (hrun : ContinuesRun dir laser ax ay s) (h0 : 0 ≤ dist)
    (hover : 2147483647 < (s.mDist.toNat : Int) + dist) :
    move dir dist laser ax ay s = raise .invalidDistance dist s :=
  (if_neg (not_lt.mpr h0)).trans <| (if_pos hrun).trans <| if_pos hover

theorem move_of_new (hrun : ¬ContinuesRun dir laser ax ay s) (h0 : 0 ≤ dist) :
    move dir dist laser ax ay s =
      .go () (startRun dir dist laser (keepOr ax s.mAx) (keepOr ay s.mAy) s) :=
  (if_neg (not_lt.mpr h0)).trans (if_neg hrun)

theorem exec_move_of_ok (h : s.fault = 0) (n : Word32) :
    exec (.move dir laser ax ay n) s = .next
      (if moveFieldsLegal dir ax ay then move dir (sext32 n) laser ax ay s
      else raise .illegalCommand 0x20 s).state := by
  change execMove dir laser ax ay n s = _
  rw [execMove, runCommand_of_ok h]

theorem exec_move_of_legal (h : s.fault = 0) (hlegal : moveFieldsLegal dir ax ay = true)
    (n : Word32) :
    exec (.move dir laser ax ay n) s = .next (move dir (sext32 n) laser ax ay s).state := by
  rw [exec_move_of_ok h, if_pos hlegal]

end

/-- Settles O41: the sum fits in MDIST or it does not. -/
theorem moveAccumulatesInTheSameState : Obligations.MoveAccumulatesInTheSameState := by
  intro dir laser ax ay n s h hdir0 hdir hax hay (hn : 0 ≤ sext32 n) hmdir hlaser hkeepx hkeepy
  have hrun : ContinuesRun dir laser ax ay s := ⟨hmdir, hlaser,
    (keepOr_eq_modal_iff _ _).mpr hkeepx, (keepOr_eq_modal_iff _ _).mpr hkeepy⟩
  have hdist := sext32_of_nonneg hn
  rw [exec_move_of_legal h ((moveFieldsLegal_iff dir ax ay).mpr ⟨hdir0, hdir, hax, hay⟩)]
  refine ⟨fun hfits => ?_, fun hover => ?_⟩
  · rw [move_of_fits hrun hn (by omega), Flow.state_go, ofInt_toNat_add]
  · rw [move_of_overflow hrun hn (by omega), raise_state, if_pos h, wrap32_sext32]
    rfl

/-! ### The bytes of a new run (R152 to R154) -/

/-- `Emits` with its bytes named. -/
def EmitsBytes (s : State) (bs : List Byte) (t : State) : Prop := withStreamsOf t s = emitList bs s

theorem EmitsBytes.trans {s t u : State} {as bs : List Byte} (h : EmitsBytes s as t)
    (h' : EmitsBytes t bs u) : EmitsBytes s (as ++ bs) u :=
  calc withStreamsOf u s = withStreamsOf (withStreamsOf u t) s := rfl
    _ = emitList bs (withStreamsOf t s) := by rw [h', emitList_withStreamsOf]
    _ = emitList (as ++ bs) s := by rw [h, emitList_append]

/-- An update that emits one byte and writes registers, or does nothing. -/
theorem EmitsBytes.ite {s t : State} {b : Byte} {p : Prop} [Decidable p]
    (h : withStreamsOf t s = withStreamsOf (emit b s) s) :
    EmitsBytes s (if p then [b] else []) (if p then t else s) := by
  split
  · exact h.trans (emitList_eq_withStreamsOf [b] s).symm
  · rfl

theorem emitsBytes_flush (s : State) : EmitsBytes s s.flushBytes (flush s) :=
  (emitList_eq_withStreamsOf s.flushBytes s).symm

theorem emitsBytes_setLaser (l : BitVec 1) (s : State) :
    EmitsBytes s (if l ≠ s.mLaser then [laserByte l] else []) (setLaser l s) := .ite rfl

theorem emitsBytes_setAx (a : BitVec 2) (s : State) :
    EmitsBytes s (if a ≠ s.mAx then [axByte a] else []) (setAx a s) := .ite rfl

theorem emitsBytes_setAy (a : BitVec 2) (s : State) :
    EmitsBytes s (if a ≠ s.mAy then [ayByte a] else []) (setAy a s) := .ite rfl

/-- A sub-direction that is emitted is 1 or 2, so its byte is never a free value (R81). -/
theorem subDirectionBytes_eq {byte : BitVec 2 → Byte} {a modal : BitVec 2}
    (ha : a = modal ∨ a = 1 ∨ a = 2) :
    (if a ≠ modal then [byte a] else []) =
      if a = modal then [] else if a = 1 then [byte 1] else [byte 2] := by
  rw [ite_not]
  refine ite_congr rfl (fun _ => rfl) fun hne => ?_
  obtain rfl | rfl := ha.resolve_left hne
  · rfl
  · rfl

theorem laserBytes_eq (l modal : BitVec 1) :
    (if l ≠ modal then [laserByte l] else []) =
      if l = modal then [] else if l = 1 then [0x44] else [0x55] := by
  rw [ite_not, laserByte, apply_ite fun b : Byte => [b]]

section
variable {d : BitVec 3} {n : Int} {l : BitVec 1} {x y : BitVec 2} {s : State}

theorem emitsBytes_startRun (hx : x = s.mAx ∨ x = 1 ∨ x = 2) (hy : y = s.mAy ∨ y = 1 ∨ y = 2) :
    EmitsBytes s (runStartBytes l x y s) (startRun d n l x y s) := by
  have hmodal := (((emitsBytes_flush s).trans (emitsBytes_setLaser l _)).trans
    (emitsBytes_setAx x _)).trans (emitsBytes_setAy y _)
  simp only [flush_mLaser, setLaser_mAx, flush_mAx, setAx_mAy, setLaser_mAy, flush_mAy,
    laserBytes_eq, subDirectionBytes_eq hx, subDirectionBytes_eq hy] at hmodal
  have hstart : withStreamsOf (startRun d n l x y s) s =
      withStreamsOf (setAy y (setAx x (setLaser l (flush s)))) s := by
    simp [startRun, withStreamsOf]
  exact hstart.trans hmodal

theorem startRun_eq_emitList (hx : x = s.mAx ∨ x = 1 ∨ x = 2) (hy : y = s.mAy ∨ y = 1 ∨ y = 2) :
    startRun d n l x y s =
      { emitList (runStartBytes l x y s) s with
        mDir := d, mDist := BitVec.ofInt 31 n, mLaser := l,
        mAx := if d = 1 then 1 else if d = 2 then 2 else x,
        mAy := if d = 3 then 1 else if d = 4 then 2 else y } := by
  rw [startRun_eq_withStreamsOf, emitsBytes_startRun hx hy]

end

/-- Settles O42: the other branch of `Move`, its emissions put together. -/
theorem moveStartsANewRun : Obligations.MoveStartsANewRun := by
  intro dir laser ax ay n s h hdir0 hdir hax hay (hn : 0 ≤ sext32 n) rax ray hnew
  have hlegal := (moveFieldsLegal_iff dir ax ay).mpr ⟨hdir0, hdir, hax, hay⟩
  rw [exec_move_of_legal h hlegal, move_of_new hnew hn, Flow.state_go,
    startRun_eq_emitList (keepOr_cases hax s.mAx) (keepOr_cases hay s.mAy), ofInt_sext32]
  rfl

/-! ### Moves of one state coalesce (R160) -/

section
variable {dir : BitVec 3} {laser : BitVec 1} {ax ay : BitVec 2} {s u v : State}

/-- What a `Move` that raises nothing has done. -/
theorem move_go_cases {dist : Int} (h : move dir dist laser ax ay s = .go () u) :
    0 ≤ dist ∧
      ((ContinuesRun dir laser ax ay s ∧ (s.mDist.toNat : Int) + dist ≤ 2147483647 ∧
          u = { s with mDist := BitVec.ofInt 31 (s.mDist.toNat + dist) }) ∨
        (¬ContinuesRun dir laser ax ay s ∧
          u = startRun dir dist laser (keepOr ax s.mAx) (keepOr ay s.mAy) s)) := by
  obtain ⟨hm, -⟩ | ⟨hm, h0, hfits, hrun⟩ | ⟨hm, h0, hnew⟩ :=
    move_cases dir dist laser ax ay s <;> rw [hm] at h
  · exact nomatch h
  · cases h
    exact ⟨h0, .inl ⟨hrun, hfits, rfl⟩⟩
  · cases h
    exact ⟨h0, .inr ⟨hnew, rfl⟩⟩

/-- The distance of a new run stands in MDIST and nowhere else. -/
theorem startRun_eq_with_mDist (n m : Int) (x y : BitVec 2) (s : State) :
    startRun dir m laser x y s =
      { startRun dir n laser x y s with mDist := BitVec.ofInt 31 m } := by
  unfold startRun latchAxis
  split_ifs <;> rfl

/-- An operand is kept or is what a new run leaves on its axis, unless it contradicts the latched
direction (R154). -/
theorem keepOr_latched {p q : Prop} [Decidable p] [Decidable q] {operand : BitVec 2}
    (h3 : operand ≠ 3) (hp : p → operand ≠ 2) (hq : q → operand ≠ 1) (modal : BitVec 2) :
    keepOr operand (if p then 1 else if q then 2 else keepOr operand modal) =
      if p then 1 else if q then 2 else keepOr operand modal := by
  by_cases h0 : operand = 0
  · exact if_pos h0
  rw [keepOr_eq_modal_iff]
  right
  split_ifs with h1 h2
  · have := hp h1
    bv_omega
  · have := hq h2
    bv_omega
  · exact (if_neg h0).symm

theorem contradicts_eq_false_iff (dir : BitVec 3) (ax ay : BitVec 2) :
    contradicts dir ax ay = false ↔
      (dir = 1 → ax ≠ 2) ∧ (dir = 2 → ax ≠ 1) ∧ (dir = 3 → ay ≠ 2) ∧ (dir = 4 → ay ≠ 1) := by
  simp only [contradicts, decide_eq_false_iff_not, not_or, not_and, ne_eq]

/-- The same operands continue the run they have started. -/
theorem continuesRun_startRun (hax : ax ≠ 3) (hay : ay ≠ 3) (hc : contradicts dir ax ay = false)
    (n : Int) :
    ContinuesRun dir laser ax ay
      (startRun dir n laser (keepOr ax s.mAx) (keepOr ay s.mAy) s) := by
  obtain ⟨hright, hleft, hup, hdown⟩ := (contradicts_eq_false_iff dir ax ay).mp hc
  refine ⟨(startRun_mDir ..).symm, (startRun_mLaser ..).symm, ?_, ?_⟩
  · rw [startRun_mAx]
    exact keepOr_latched hax hright hleft _
  · rw [startRun_mAy]
    exact keepOr_latched hay hup hdown _

/-- A `Move` in the modal state that raises nothing adds to the run. -/
theorem move_go_of_continuesRun {dist : Int} (hrun : ContinuesRun dir laser ax ay s)
    (h : move dir dist laser ax ay s = .go () u) :
    0 ≤ dist ∧ (s.mDist.toNat : Int) + dist ≤ 2147483647 ∧
      u = { s with mDist := BitVec.ofInt 31 (s.mDist.toNat + dist) } := by
  obtain ⟨h0, ⟨-, hfits, hu⟩ | ⟨hnew, -⟩⟩ := move_go_cases h
  · exact ⟨h0, hfits, hu⟩
  · exact absurd hrun hnew

/-- Two `Move`s are one of the summed distance: whichever branch the first takes, the second adds to
the run it leaves (R160). -/
theorem move_add {a b : Int} (hax : ax ≠ 3) (hay : ay ≠ 3) (hc : contradicts dir ax ay = false)
    (ha : a ≤ 2147483647) (hu : move dir a laser ax ay s = .go () u)
    (hv : move dir b laser ax ay u = .go () v) :
    a + b ≤ 2147483647 ∧ move dir (a + b) laser ax ay s = .go () v := by
  obtain ⟨ha0, ⟨hrun, hfits, rfl⟩ | ⟨hnew, rfl⟩⟩ := move_go_cases hu
  · have hrunu : ContinuesRun dir laser ax ay
        { s with mDist := BitVec.ofInt 31 (s.mDist.toNat + a) } := hrun
    obtain ⟨hb0, hsum, rfl⟩ := move_go_of_continuesRun hrunu hv
    rw [toNat_ofInt_of_fits (by omega) hfits] at hsum
    refine ⟨by omega, ?_⟩
    rw [move_of_fits hrun (by omega) (by omega), toNat_ofInt_of_fits (by omega) hfits, add_assoc]
  · obtain ⟨hb0, hsum, rfl⟩ := move_go_of_continuesRun (continuesRun_startRun hax hay hc a) hv
    rw [startRun_mDist, toNat_ofInt_of_fits ha0 ha] at hsum
    refine ⟨hsum, ?_⟩
    rw [move_of_new hnew (by omega), startRun_eq_with_mDist a, startRun_mDist,
      toNat_ofInt_of_fits ha0 ha]

/-- A raise leaves a fault behind, its own or the first one (60_exceptions.md R255). -/
theorem raise_state_fault_ne_zero {α : Type} (c : Cause) (info : Int) (s : State) :
    (raise c info s : Flow α).state.fault ≠ 0 := by
  rw [raise_state]
  split
  · exact c.code_ne_zero
  · assumption

/-- A MOVE that leaves no fault had legal fields, and its `Move` raised nothing. -/
theorem exec_move_go {n : Word32} (h : s.fault = 0)
    (hexec : exec (.move dir laser ax ay n) s = .next u) (hu : u.fault = 0) :
    moveFieldsLegal dir ax ay = true ∧ move dir (sext32 n) laser ax ay s = .go () u := by
  rw [exec_move_of_ok h] at hexec
  cases hexec
  split at hu
  case isFalse => exact absurd hu (raise_state_fault_ne_zero _ _ s)
  case isTrue hlegal =>
    refine ⟨hlegal, ?_⟩
    rw [if_pos hlegal]
    obtain ⟨hm, -⟩ | ⟨hm, -⟩ | ⟨hm, -⟩ := move_cases dir (sext32 n) laser ax ay s <;> rw [hm] at hu ⊢
    · exact absurd hu (raise_state_fault_ne_zero _ _ s)
    · rfl
    · rfl

end

/-- Settles O44: neither move has faulted, so the two are one `Move`. -/
theorem identicalMovesCoalesce : Obligations.IdenticalMovesCoalesce := by
  intro dir laser ax ay a b s u v h hc hexecu hexecv hv
  have hu : u.fault = 0 := by
    by_contra hf
    rw [exec_of_faulted (i := .move dir laser ax ay b) nofun hf] at hexecv
    cases hexecv
    exact hf hv
  obtain ⟨hlegal, hmoveu⟩ := exec_move_go h hexecu hu
  obtain ⟨-, hmovev⟩ := exec_move_go hu hexecv hv
  obtain ⟨-, -, hax, hay⟩ := (moveFieldsLegal_iff dir ax ay).mp hlegal
  obtain ⟨hsum, hmove⟩ := move_add hax hay hc (sext32_le a) hmoveu hmovev
  obtain ⟨ha0, -⟩ := move_go_cases hmoveu
  obtain ⟨hb0, -⟩ := move_go_cases hmovev
  rw [exec_move_of_legal h hlegal, sext32_add ha0 hb0 hsum, hmove, Flow.state_go]

end Sys2Proof.Machine
end

section
/-! SUPPORT. The steps of a general line and the runs they make (spec/42_line_rasterizer.md R183 to
R188). -/

namespace Sys2Proof.Machine

open Sys2Proof.Claim

/-! ### The classification of the steps (R183, R184) -/

/-- The accumulator `e(i)` of R184, in closed form. -/
def lineError (major minor i : Nat) : Nat := (2 * i * minor + major) % (2 * major)

section
variable {major minor : Nat}

theorem lineError_zero (h : 0 < major) : lineError major minor 0 = major := by
  rw [lineError, Nat.mul_zero, Nat.zero_mul, Nat.zero_add, Nat.mod_eq_of_lt (by omega)]

theorem lineRound_zero (h : 0 < major) : lineRound major minor 0 = 0 := by
  rw [lineRound, Nat.mul_zero, Nat.zero_mul, Nat.zero_add, Nat.div_eq_of_lt (by omega)]

/-- The line has risen by `minor` at its end. -/
theorem lineRound_major (h : 0 < major) : lineRound major minor major = minor := by
  rw [lineRound, Nat.mul_add_div (by omega), Nat.div_eq_of_lt (by omega), Nat.add_zero]

theorem lineNumerator_succ (i : Nat) :
    2 * (i + 1) * minor + major = 2 * i * minor + major + 2 * minor := by ring

/-- `r` advances by one where the accumulator overflows, and else repeats. -/
theorem lineRound_succ (h : minor < major) (i : Nat) :
    lineRound major minor (i + 1) = lineRound major minor i +
      if 2 * major ≤ lineError major minor i + 2 * minor then 1 else 0 := by
  have hlt : 2 * minor < 2 * major := by omega
  rw [lineRound, lineNumerator_succ, Nat.add_div (by omega), Nat.div_eq_of_lt hlt,
    Nat.mod_eq_of_lt hlt, Nat.add_zero, ← lineRound, ← lineError]

theorem lineError_succ (h : minor < major) (i : Nat) :
    lineError major minor (i + 1) =
      if 2 * major ≤ lineError major minor i + 2 * minor then
        lineError major minor i + 2 * minor - 2 * major
      else lineError major minor i + 2 * minor := by
  have hlt : 2 * minor < 2 * major := by omega
  rw [lineError, lineNumerator_succ, Nat.add_mod_eq_ite, Nat.mod_eq_of_lt hlt, ← lineError]

theorem stepKind_succ (h : minor < major) (i : Nat) :
    stepKind major minor (i + 1) =
      if 2 * major ≤ lineError major minor i + 2 * minor then .diagonal else .primary := by
  rw [stepKind, Nat.add_sub_cancel, lineRound_succ h]
  split
  · exact if_neg (by omega)
  · exact if_pos rfl

/-- The accumulator form from any step on. -/
theorem accumulatorSteps_lineError (h : minor < major) (k i : Nat) :
    accumulatorSteps major minor k (lineError major minor i) =
      (List.range k).map fun j => stepKind major minor (i + j + 1) := by
  induction k generalizing i with
  | zero => rfl
  | succ k ih =>
    have hrest := ih (i + 1)
    simp only [lineError_succ h, Nat.add_right_comm i 1] at hrest
    rw [accumulatorSteps, List.range_succ_eq_map, List.map_cons, List.map_map, Nat.add_zero,
      stepKind_succ h]
    split_ifs at hrest ⊢ <;> exact congrArg _ hrest

end

/-- Settles O49: the accumulator started at `major` is `e(0)`. -/
theorem roundingAndAccumulatorAgree : Obligations.RoundingAndAccumulatorAgree := by
  intro major minor h0 h
  have hsteps := accumulatorSteps_lineError h major 0
  rw [lineError_zero (by omega)] at hsteps
  simp [hsteps, lineSteps]

/-! ### The runs (R185) -/

/-- The steps of a run. -/
def runSteps (r : StepKind × Nat) : List StepKind := List.replicate r.2 r.1

/-- The ticks of all runs of one kind. -/
def runTicks (k : StepKind) (runs : List (StepKind × Nat)) : Nat :=
  ((runs.filter fun r => r.1 = k).map Prod.snd).sum

theorem runTicks_cons (k : StepKind) (r : StepKind × Nat) (runs : List (StepKind × Nat)) :
    runTicks k (r :: runs) = (if r.1 = k then r.2 else 0) + runTicks k runs := by
  unfold runTicks
  by_cases h : r.1 = k <;> simp [h]

/-- The ticks of a kind are the steps of that kind. -/
theorem runTicks_eq_count (k : StepKind) (runs : List (StepKind × Nat)) :
    runTicks k runs = (runs.flatMap runSteps).count k := by
  induction runs with
  | nil => rfl
  | cons r runs ih => simp [runTicks_cons, ih, runSteps, List.count_replicate]

/-- Successive runs differ in kind. -/
def Alternating (runs : List (StepKind × Nat)) : Prop := runs.IsChain fun a b => a.1 ≠ b.1

section
variable (k : StepKind) (len : Nat) (ks : List StepKind)

theorem flatMap_runSteps_batchFrom :
    (batchFrom k len ks).flatMap runSteps = List.replicate len k ++ ks := by
  induction ks generalizing k len with
  | nil => simp [batchFrom, runSteps]
  | cons k' ks ih =>
    unfold batchFrom
    split
    case isTrue hk => rw [ih, hk, List.replicate_succ', List.append_assoc]; rfl
    case isFalse => rw [List.flatMap_cons, ih]; rfl

theorem head?_batchFrom :
    (batchFrom k len ks).head? = some (k, len + (ks.takeWhile (· = k)).length) := by
  induction ks generalizing len with
  | nil => rfl
  | cons k' ks ih =>
    unfold batchFrom
    split
    case isTrue hk => simp [ih, hk, Nat.add_assoc, Nat.add_comm 1]
    case isFalse hk => simp [hk]

theorem alternating_batchFrom : Alternating (batchFrom k len ks) := by
  induction ks generalizing k len with
  | nil => exact List.isChain_singleton _
  | cons k' ks ih =>
    unfold batchFrom
    split
    case isTrue => exact ih k _
    case isFalse hk =>
      refine List.isChain_cons.mpr ⟨fun r hr => ?_, ih k' 1⟩
      rw [head?_batchFrom, Option.mem_some_iff] at hr
      exact hr ▸ Ne.symm hk

theorem batchFrom_pos {len : Nat} (h : 0 < len) : ∀ r ∈ batchFrom k len ks, 0 < r.2 := by
  induction ks generalizing k len with
  | nil => simpa [batchFrom] using h
  | cons k' ks ih =>
    unfold batchFrom
    split
    case isTrue => exact ih k (Nat.succ_pos len)
    case isFalse => exact List.forall_mem_cons.mpr ⟨h, ih k' Nat.one_pos⟩

/-- A diagonal step begins at most two runs: its own and the primary one behind it. -/
theorem length_batchFrom_le :
    (batchFrom k len ks).length ≤ 2 * ks.count .diagonal + if k = .diagonal then 2 else 1 := by
  induction ks generalizing k len with
  | nil => cases k <;> simp [batchFrom]
  | cons k' ks ih =>
    unfold batchFrom
    split
    case isTrue hk =>
      have hrest := ih k (len + 1)
      have hmono : ks.count .diagonal ≤ (k' :: ks).count .diagonal := List.count_le_count_cons
      omega
    case isFalse hk =>
      rw [List.length_cons]
      match k, k', hk with
      | .primary, .diagonal, _ =>
        have hrest := ih .diagonal 1
        simp at hrest ⊢
        omega
      | .diagonal, .primary, _ =>
        have hrest := ih .primary 1
        simp at hrest ⊢
        omega

end

theorem flatMap_runSteps_batch (ks : List StepKind) : (batch ks).flatMap runSteps = ks := by
  cases ks with
  | nil => rfl
  | cons k ks => exact flatMap_runSteps_batchFrom k 1 ks

theorem alternating_batch (ks : List StepKind) : Alternating (batch ks) := by
  cases ks with
  | nil => exact List.isChain_nil
  | cons k ks => exact alternating_batchFrom k 1 ks

theorem batch_pos (ks : List StepKind) : ∀ r ∈ batch ks, 0 < r.2 := by
  cases ks with
  | nil => nofun
  | cons k ks => exact batchFrom_pos k ks Nat.one_pos

theorem length_batch_le (ks : List StepKind) : (batch ks).length ≤ 2 * ks.count .diagonal + 1 := by
  cases ks with
  | nil => exact Nat.zero_le _
  | cons k ks =>
    have hle := length_batchFrom_le k 1 ks
    rw [batch, List.count_cons]
    cases k <;> simp at hle ⊢ <;> omega

/-- The batching finds the first run (R185). -/
theorem batch_eq_firstRun_cons {ks : List StepKind} (h : ks ≠ []) :
    ∃ runs, batch ks = firstRun ks :: runs := by
  cases ks with
  | nil => exact absurd rfl h
  | cons k ks => exact List.head?_eq_some_iff.mp (head?_batchFrom k 1 ks)

/-! ### The runs reconstruct the line (R187) -/

theorem count_primary_add_count_diagonal (ks : List StepKind) :
    ks.count .primary + ks.count .diagonal = ks.length := by
  induction ks with
  | nil => rfl
  | cons k ks ih => cases k <;> simp <;> omega

section
variable {major minor : Nat}

/-- Up to step `n` the line has made `r(n)` diagonal steps. -/
theorem count_diagonal_steps (h : minor < major) (n : Nat) :
    ((List.range n).map fun i => stepKind major minor (i + 1)).count .diagonal =
      lineRound major minor n := by
  induction n with
  | zero => exact (lineRound_zero (by omega)).symm
  | succ n ih =>
    rw [List.range_succ, List.map_append, List.count_append, ih, lineRound_succ h, List.map_singleton,
      stepKind_succ h]
    split <;> rfl

theorem count_diagonal_lineSteps (h : minor < major) :
    (lineSteps major minor).count .diagonal = minor :=
  (count_diagonal_steps h major).trans (lineRound_major (by omega))

theorem length_lineSteps (major minor : Nat) : (lineSteps major minor).length = major := by
  simp [lineSteps]

theorem flatMap_runSteps_lineRuns (major minor : Nat) :
    (lineRuns major minor).flatMap runSteps = lineSteps major minor := flatMap_runSteps_batch _

/-- The ticks along the minor axis. -/
theorem runTicks_diagonal_lineRuns (h : minor < major) :
    runTicks .diagonal (lineRuns major minor) = minor := by
  rw [runTicks_eq_count, flatMap_runSteps_lineRuns, count_diagonal_lineSteps h]

/-- The ticks along the major axis. -/
theorem runTicks_lineRuns (major minor : Nat) :
    runTicks .primary (lineRuns major minor) + runTicks .diagonal (lineRuns major minor) =
      major := by
  rw [runTicks_eq_count, runTicks_eq_count, flatMap_runSteps_lineRuns,
    count_primary_add_count_diagonal, length_lineSteps]

theorem length_lineRuns_le (h : minor < major) :
    (lineRuns major minor).length ≤ 2 * minor + 1 := by
  have hle := length_batch_le (lineSteps major minor)
  rwa [count_diagonal_lineSteps h] at hle

end

/-- Settles O50: the runs are the batches of the steps, and `r` counts the diagonal steps. -/
theorem lineRunsReconstructTheLine : Obligations.LineRunsReconstructTheLine :=
  fun major minor _ h => ⟨flatMap_runSteps_lineRuns major minor, batch_pos _, alternating_batch _,
    runTicks_lineRuns major minor, runTicks_diagonal_lineRuns h, length_lineRuns_le h⟩

end Sys2Proof.Machine
end

section
/-! SUPPORT. LINE: which move or which moves it makes (spec/42_line_rasterizer.md R180 to R187). -/

namespace Sys2Proof.Machine

open Sys2Proof.Claim

/-! ### The branches of LINE (R180 to R182) -/

section
variable {dx dy : Int}

theorem axisCode_of_ne_zero (h : dx ≠ 0) : axisCode dx = if 0 < dx then 1 else 2 := by
  unfold axisCode
  split
  · rfl
  · exact if_pos (by omega)

theorem line_of_minInt32 (h : dx = minInt32 ∨ dy = minInt32) (laser : BitVec 1) (s : State) :
    line laser dx dy s = raise .invalidDistance minInt32 s := by
  unfold line
  split
  case isTrue hx => rw [hx]
  case isFalse hx => rw [if_pos (h.resolve_left hx), h.resolve_left hx]

theorem line_zero (laser : BitVec 1) (s : State) : line laser 0 0 s = .go () s := rfl

theorem line_horizontal (h0 : dx ≠ 0) (hmin : dx ≠ minInt32) (laser : BitVec 1) (s : State) :
    line laser dx 0 s = move (xDirCode (axisCode dx)) dx.natAbs laser 0 0 s := by
  have hadx : dx.natAbs ≠ 0 := Int.natAbs_ne_zero.mpr h0
  simp only [line, if_neg hmin]
  simp [hadx, minInt32]

theorem line_vertical (h0 : dy ≠ 0) (hmin : dy ≠ minInt32) (laser : BitVec 1) (s : State) :
    line laser 0 dy s = move (yDirCode (axisCode dy)) dy.natAbs laser 0 0 s := by
  have hady : dy.natAbs ≠ 0 := Int.natAbs_ne_zero.mpr h0
  simp only [line, if_neg hmin]
  simp [hady, minInt32]

theorem line_diagonal (h0 : dx ≠ 0) (hx : dx ≠ minInt32) (hy : dy ≠ minInt32)
    (habs : dx.natAbs = dy.natAbs) (laser : BitVec 1) (s : State) :
    line laser dx dy s = move 5 dx.natAbs laser (axisCode dx) (axisCode dy) s := by
  have hadx : dx.natAbs ≠ 0 := Int.natAbs_ne_zero.mpr h0
  simp only [line, if_neg hx, if_neg hy, ← habs, hadx, and_self, if_false, if_true]

/-- What is fixed for all runs of the line `(dx, dy)` (R183, R185). -/
def lineDirs (laser : BitVec 1) (dx dy : Int) : LineDirs where
  pdir := if dy.natAbs < dx.natAbs then xDirCode (axisCode dx) else yDirCode (axisCode dy)
  sx := axisCode dx
  sy := axisCode dy
  laser := laser

theorem line_general (hx0 : dx ≠ 0) (hy0 : dy ≠ 0) (hx : dx ≠ minInt32) (hy : dy ≠ minInt32)
    (habs : dx.natAbs ≠ dy.natAbs) (laser : BitVec 1) (s : State) :
    line laser dx dy s = generalLine (max dx.natAbs dy.natAbs) (min dx.natAbs dy.natAbs)
      (lineDirs laser dx dy) s := by
  have hadx : dx.natAbs ≠ 0 := Int.natAbs_ne_zero.mpr hx0
  have hady : dy.natAbs ≠ 0 := Int.natAbs_ne_zero.mpr hy0
  simp only [line, if_neg hx, if_neg hy, hadx, hady, habs, and_self, if_false]
  split
  case isTrue hlt => rw [max_eq_left hlt.le, min_eq_right hlt.le, lineDirs, if_pos hlt]
  case isFalse hle =>
    rw [max_eq_right (not_lt.mp hle), min_eq_left (not_lt.mp hle), lineDirs, if_neg hle]

end

/-! ### One move (R182) -/

theorem sext32_eq_minInt32_iff (w : Word32) : sext32 w = minInt32 ↔ w = 0x80000000 :=
  BitVec.toInt_inj (y := 0x80000000#32)

/-- Settles O47. -/
theorem lineZeroAndOutOfRange : Obligations.LineZeroAndOutOfRange := by
  refine fun laser dx dy s h => ⟨runCommand_of_ok h, fun hmin => ?_⟩
  rw [← sext32_eq_minInt32_iff, ← sext32_eq_minInt32_iff] at hmin
  exact runCommand_raise h (line_of_minInt32 hmin laser s)

/-- A displacement of `n` ticks along one axis in the direction of the code `c` (R180, R181). -/
structure Displaces (d n : Word32) (c : BitVec 2) : Prop where
  ne_zero : sext32 d ≠ 0
  ne_minInt32 : sext32 d ≠ minInt32
  natAbs_eq : ((sext32 d).natAbs : Int) = sext32 n
  code_eq : axisCode (sext32 d) = c

theorem exec_line_eq_exec_move {laser : BitVec 1} {dx dy n : Word32} {dir : BitVec 3}
    {ax ay : BitVec 2} {s : State} (hlegal : moveFieldsLegal dir ax ay = true)
    (h : line laser (sext32 dx) (sext32 dy) s = move dir (sext32 n) laser ax ay s) :
    exec (.line laser dx dy) s = exec (.move dir laser ax ay n) s := by
  by_cases hf : s.fault = 0
  · rw [exec_move_of_legal hf hlegal, ← h]
    exact runCommand_of_ok hf
  · rw [exec_of_faulted (i := .line laser dx dy) nofun hf,
      exec_of_faulted (i := .move dir laser ax ay n) nofun hf]

theorem sext32_neg {n : Word32} (h : 0 < sext32 n) : sext32 (-n) = -sext32 n := by
  refine BitVec.toInt_neg_of_ne_intMin fun hmin => ?_
  rw [hmin] at h
  exact absurd h (by decide)


section
variable {n : Word32}

theorem displaces_self (h : 0 < sext32 n) : Displaces n n 1 where
  ne_zero := h.ne'
  ne_minInt32 := by unfold minInt32; omega
  natAbs_eq := Int.natAbs_of_nonneg h.le
  code_eq := if_pos h

theorem displaces_neg (h : 0 < sext32 n) : Displaces (-n) n 2 where
  ne_zero := by rw [sext32_neg h]; omega
  ne_minInt32 := by
    have hle := sext32_le n
    rw [sext32_neg h]
    unfold minInt32
    omega
  natAbs_eq := by rw [sext32_neg h, Int.natAbs_neg, Int.natAbs_of_nonneg h.le]
  code_eq := by rw [sext32_neg h, axisCode_of_ne_zero (by omega), if_neg (by omega)]

theorem Displaces.code_eq_one_or_two {d : Word32} {c : BitVec 2} (h : Displaces d n c) :
    c = 1 ∨ c = 2 := h.code_eq ▸ axisCode_eq_one_or_two h.ne_zero

variable {dx dy : Word32} {cx cy : BitVec 2} (laser : BitVec 1) (s : State)

theorem exec_line_horizontal (hx : Displaces dx n cx) :
    exec (.line laser dx 0) s = exec (.move (xDirCode cx) laser 0 0 n) s := by
  refine exec_line_eq_exec_move (xDirCode_legal hx.code_eq_one_or_two) ?_
  rw [← hx.natAbs_eq, ← hx.code_eq]
  exact line_horizontal hx.ne_zero hx.ne_minInt32 laser s

theorem exec_line_vertical (hy : Displaces dy n cy) :
    exec (.line laser 0 dy) s = exec (.move (yDirCode cy) laser 0 0 n) s := by
  refine exec_line_eq_exec_move (yDirCode_legal hy.code_eq_one_or_two) ?_
  rw [← hy.natAbs_eq, ← hy.code_eq]
  exact line_vertical hy.ne_zero hy.ne_minInt32 laser s

theorem exec_line_diagonal (hx : Displaces dx n cx) (hy : Displaces dy n cy) :
    exec (.line laser dx dy) s = exec (.move 5 laser cx cy n) s := by
  obtain ⟨hlegal, -⟩ := lineFields_legal hx.code_eq_one_or_two hy.code_eq_one_or_two
  refine exec_line_eq_exec_move hlegal ?_
  rw [← hx.natAbs_eq, ← hx.code_eq, ← hy.code_eq]
  refine line_diagonal hx.ne_zero hx.ne_minInt32 hy.ne_minInt32 ?_ laser s
  exact Int.natCast_inj.mp (hx.natAbs_eq.trans hy.natAbs_eq.symm)

end

/-- Settles O48: each is a branch of LINE that makes one move. -/
theorem simpleLinesAreOneMove : Obligations.SimpleLinesAreOneMove := by
  intro laser n s hn
  have hpos := displaces_self hn
  have hneg := displaces_neg hn
  exact ⟨exec_line_horizontal laser s hpos, exec_line_horizontal laser s hneg,
    exec_line_vertical laser s hpos, exec_line_vertical laser s hneg,
    exec_line_diagonal laser s hpos hpos, exec_line_diagonal laser s hpos hneg,
    exec_line_diagonal laser s hneg hpos, exec_line_diagonal laser s hneg hneg⟩

end Sys2Proof.Machine
end

section
/-! SUPPORT. The moves of a general line, run by run and tick by tick (spec/42_line_rasterizer.md R183
to R187; 41_motion_encoder.md R152, R160). -/

namespace Sys2Proof.Machine

open Sys2Proof.Claim

/-! ### When a `Move` raises nothing, and what it leaves (R152) -/

section
variable {dir : BitVec 3} {dist : Int} {laser : BitVec 1} {ax ay : BitVec 2} {s u v : State}

theorem exists_move_go (h0 : 0 ≤ dist)
    (hfits : ContinuesRun dir laser ax ay s → (s.mDist.toNat : Int) + dist ≤ 2147483647) :
    ∃ u, move dir dist laser ax ay s = .go () u := by
  by_cases hrun : ContinuesRun dir laser ax ay s
  · exact ⟨_, move_of_fits hrun h0 (hfits hrun)⟩
  · exact ⟨_, move_of_new hrun h0⟩

theorem move_go_mDir (h : move dir dist laser ax ay s = .go () u) : u.mDir = dir := by
  obtain ⟨-, ⟨⟨hdir, -⟩, -, rfl⟩ | ⟨-, rfl⟩⟩ := move_go_cases h
  · exact hdir.symm
  · exact startRun_mDir ..

theorem move_go_fault (h : move dir dist laser ax ay s = .go () u) : u.fault = s.fault := by
  obtain ⟨-, ⟨-, -, rfl⟩ | ⟨-, rfl⟩⟩ := move_go_cases h
  · rfl
  · exact startRun_fault ..

/-- A `Move` can be made in two parts (R160). -/
theorem move_split {a b : Int} (hax : ax ≠ 3) (hay : ay ≠ 3) (hc : contradicts dir ax ay = false)
    (ha0 : 0 ≤ a) (hb0 : 0 ≤ b) (hab : a + b ≤ 2147483647)
    (h : move dir (a + b) laser ax ay s = .go () v) :
    ∃ u, move dir a laser ax ay s = .go () u ∧ move dir b laser ax ay u = .go () v := by
  have hfits (hrun : ContinuesRun dir laser ax ay s) :
      (s.mDist.toNat : Int) + (a + b) ≤ 2147483647 := (move_go_of_continuesRun hrun h).2.1
  obtain ⟨u, hu⟩ := exists_move_go ha0 fun hrun => by have := hfits hrun; omega
  have hmDist : (u.mDist.toNat : Int) + b ≤ 2147483647 := by
    obtain ⟨-, ⟨hrun, hfitsa, rfl⟩ | ⟨-, rfl⟩⟩ := move_go_cases hu
    · have := hfits hrun
      rw [toNat_ofInt_of_fits (by omega) hfitsa]
      omega
    · rw [startRun_mDist, toNat_ofInt_of_fits ha0 (by omega)]
      exact hab
  obtain ⟨w, hw⟩ := exists_move_go hb0 fun _ => hmDist
  obtain ⟨-, hsum⟩ := move_add hax hay hc (by omega) hu hw
  rw [h] at hsum
  cases hsum
  exact ⟨u, hu, hw⟩

end

/-! ### The moves of one line -/

/-- The direction of the steps of a kind (R183). -/
def LineDirs.dir (d : LineDirs) : StepKind → BitVec 3
  | .primary => d.pdir
  | .diagonal => 5

/-- The move of one run (R185). -/
def LineDirs.move (d : LineDirs) (r : StepKind × Nat) (s : State) : Flow Unit :=
  Machine.move (d.dir r.1) r.2 d.laser d.sx d.sy s

/-- One step as a command: a MOVE of one tick (R184). -/
def LineDirs.tick (d : LineDirs) (k : StepKind) : Instr := .move (d.dir k) d.laser d.sx d.sy 1

/-- What the moves of every line have: legal fields, sub-directions that are given and agree with the
direction, and a direction that tells the two kinds apart (R180, R181). -/
structure LineDirs.Sound (d : LineDirs) : Prop where
  legal : ∀ k, moveFieldsLegal (d.dir k) d.sx d.sy = true
  agrees : ∀ k, contradicts (d.dir k) d.sx d.sy = false
  sx_ne_zero : d.sx ≠ 0
  sy_ne_zero : d.sy ≠ 0
  pdir_ne : d.pdir ≠ 5

/-- The directions of a line agree with its sub-directions, and none of them is the diagonal one. -/
theorem lineFields_agree {sx sy : BitVec 2} (hx : sx = 1 ∨ sx = 2) (hy : sy = 1 ∨ sy = 2) :
    contradicts 5 sx sy = false ∧
      (contradicts (xDirCode sx) sx sy = false ∧ xDirCode sx ≠ 5) ∧
      contradicts (yDirCode sy) sx sy = false ∧ yDirCode sy ≠ 5 := by
  rcases hx with rfl | rfl <;> rcases hy with rfl | rfl <;> decide

theorem ne_zero_of_eq_one_or_two {a : BitVec 2} (h : a = 1 ∨ a = 2) : a ≠ 0 := by
  rcases h with rfl | rfl <;> decide

theorem lineDirs_sound {dx dy : Int} (hx0 : dx ≠ 0) (hy0 : dy ≠ 0) (laser : BitVec 1) :
    (lineDirs laser dx dy).Sound := by
  have hx := axisCode_eq_one_or_two hx0
  have hy := axisCode_eq_one_or_two hy0
  obtain ⟨hdiag, hxdir, hydir⟩ := lineFields_legal hx hy
  obtain ⟨hdiag', ⟨hxdir', hxne⟩, hydir', hyne⟩ := lineFields_agree hx hy
  have hsx := ne_zero_of_eq_one_or_two hx
  have hsy := ne_zero_of_eq_one_or_two hy
  unfold lineDirs
  split
  · exact ⟨fun | .primary => hxdir | .diagonal => hdiag,
      fun | .primary => hxdir' | .diagonal => hdiag', hsx, hsy, hxne⟩
  · exact ⟨fun | .primary => hydir | .diagonal => hdiag,
      fun | .primary => hydir' | .diagonal => hdiag', hsx, hsy, hyne⟩

theorem LineDirs.Sound.dir_injective {d : LineDirs} (h : d.Sound) {k k' : StepKind}
    (hdir : d.dir k = d.dir k') : k = k' := by
  cases k <;> cases k'
  · rfl
  · exact absurd hdir h.pdir_ne
  · exact absurd hdir.symm h.pdir_ne
  · rfl

section
variable {d : LineDirs} {r : StepKind × Nat} {runs : List (StepKind × Nat)} {s t u : State}

/-- The step counters after runs (R185). -/
def countRuns (runs : List (StepKind × Nat)) (counts : Nat × Nat) : Nat × Nat :=
  (counts.1 + runTicks .primary runs, counts.2 + runTicks .diagonal runs)

theorem countRuns_cons (r : StepKind × Nat) (runs : List (StepKind × Nat)) (counts : Nat × Nat) :
    countRuns (r :: runs) counts = countRuns runs (countRuns [r] counts) := by
  have hnil (k : StepKind) : runTicks k [] = 0 := rfl
  simp only [countRuns, runTicks_cons, hnil, Nat.add_zero, Nat.add_assoc]

theorem emitRun_eq (d : LineDirs) (r : StepKind × Nat) (counts : Nat × Nat) (s : State) :
    emitRun d r counts s = (d.move r s).bind fun _ s => .go (countRuns [r] counts) s := by
  obtain ⟨k, n⟩ := r
  cases k <;> rfl

theorem emitRuns_cons_of_go (h : d.move r s = .go () u) (counts : Nat × Nat) :
    emitRuns d (r :: runs) counts s = emitRuns d runs (countRuns [r] counts) u := by
  rw [emitRuns, emitRun_eq, h]
  rfl

/-- A run of the other kind is new: its move raises nothing. -/
theorem exists_move_go_of_ne {r' : StepKind × Nat} (hd : d.Sound) (h : d.move r s = .go () u)
    (hne : r.1 ≠ r'.1) : ∃ v, d.move r' u = .go () v :=
  exists_move_go (Int.natCast_nonneg _) fun ⟨hdir, _⟩ =>
    absurd (hd.dir_injective (hdir.trans (move_go_mDir h))).symm hne

/-- When the move of the first run raises nothing, none does (60_exceptions.md R257). -/
theorem exists_emitRuns_go (hd : d.Sound) (halt : Alternating (r :: runs))
    (hfirst : d.move r s = .go () u) (counts : Nat × Nat) :
    ∃ t, emitRuns d (r :: runs) counts s = .go (countRuns (r :: runs) counts) t := by
  induction runs generalizing r s u counts with
  | nil => exact ⟨u, emitRuns_cons_of_go hfirst counts⟩
  | cons r' runs ih =>
    obtain ⟨hne, halt'⟩ := List.isChain_cons_cons.mp halt
    obtain ⟨v, hv⟩ := exists_move_go_of_ne hd hfirst hne
    rw [emitRuns_cons_of_go hfirst, countRuns_cons r (r' :: runs)]
    exact ih halt' hv _

theorem emitRuns_go_fault {counts counts' : Nat × Nat}
    (h : emitRuns d runs counts s = .go counts' t) : t.fault = s.fault := by
  induction runs generalizing counts s with
  | nil => cases h; rfl
  | cons r runs ih =>
    cases hr : d.move r s with
    | go _ u =>
      rw [emitRuns_cons_of_go hr] at h
      exact (ih h).trans (move_go_fault hr)
    | ended u =>
      rw [emitRuns, emitRun_eq, hr] at h
      cases h

/-! ### The same moves tick by tick -/

theorem execAll_append {is js : List Instr} (h : execAll is s = .next u) :
    execAll (is ++ js) s = execAll js u := by
  induction is generalizing s with
  | nil => cases h; rfl
  | cons i is ih =>
    obtain ⟨v, hv⟩ := exec_exists_next i s
    simp only [List.cons_append, execAll, hv] at h ⊢
    exact ih h

theorem exec_tick_of_go (hd : d.Sound) {k : StepKind} (h : s.fault = 0)
    (hmove : d.move (k, 1) s = .go () u) : exec (d.tick k) s = .next u := by
  have hone : Machine.move (d.dir k) (sext32 1) d.laser d.sx d.sy s = .go () u := hmove
  rw [LineDirs.tick, exec_move_of_legal h (hd.legal k), hone, Flow.state_go]

/-- The move of a run is that many moves of one tick. -/
theorem execAll_ticks (hd : d.Sound) {k : StepKind} {n : Nat} (h : s.fault = 0) (hn : 0 < n)
    (hle : n ≤ 2147483647) (hmove : d.move (k, n) s = .go () u) :
    execAll ((runSteps (k, n)).map d.tick) s = .next u := by
  obtain ⟨-, -, hsx, hsy⟩ := (moveFieldsLegal_iff _ _ _).mp (hd.legal k)
  induction n, hn using Nat.le_induction generalizing s with
  | base =>
    have hrun : runSteps (k, 1) = [k] := rfl
    simp only [hrun, List.map_singleton, execAll, exec_tick_of_go hd h hmove]
  | succ n hn ih =>
    have hsplit : Machine.move (d.dir k) (1 + n) d.laser d.sx d.sy s = .go () u := by
      rw [add_comm]
      exact hmove
    obtain ⟨v, hv, hrest⟩ :=
      move_split hsx hsy (hd.agrees k) (by omega) (by omega) (by omega) hsplit
    have hrun : runSteps (k, n + 1) = k :: runSteps (k, n) := rfl
    simp only [hrun, List.map_cons, execAll, exec_tick_of_go hd h hv]
    exact ih ((move_go_fault hv).trans h) (by omega) hrest

/-- The moves of the runs are the moves of their steps. -/
theorem execAll_of_emitRuns (hd : d.Sound) {counts counts' : Nat × Nat} (h : s.fault = 0)
    (hruns : ∀ r ∈ runs, 0 < r.2 ∧ r.2 ≤ 2147483647)
    (hgo : emitRuns d runs counts s = .go counts' t) :
    execAll ((runs.flatMap runSteps).map d.tick) s = .next t := by
  induction runs generalizing counts s with
  | nil => cases hgo; rfl
  | cons r runs ih =>
    obtain ⟨⟨hpos, hle⟩, hrest⟩ := List.forall_mem_cons.mp hruns
    cases hr : d.move r s with
    | go _ u =>
      rw [emitRuns_cons_of_go hr] at hgo
      rw [List.flatMap_cons, List.map_append, execAll_append (execAll_ticks hd h hpos hle hr)]
      exact ih ((move_go_fault hr).trans h) hrest hgo
    | ended u =>
      rw [emitRuns, emitRun_eq, hr] at hgo
      cases hgo

end

/-! ### The general line (R185, R186) -/

section
variable {d : LineDirs} {major minor : Nat} {s u : State}

theorem exists_lineRuns_eq (h : 0 < major) :
    ∃ runs, lineRuns major minor = firstRun (lineSteps major minor) :: runs :=
  batch_eq_firstRun_cons (List.ne_nil_of_length_pos (by rwa [length_lineSteps]))

/-- No run is longer than the line. -/
theorem lineRuns_le {r : StepKind × Nat} (h : r ∈ lineRuns major minor) : r.2 ≤ major := by
  have hlen := congrArg List.length (flatMap_runSteps_lineRuns major minor)
  obtain ⟨before, after, hsplit⟩ := List.append_of_mem h
  simp only [hsplit, List.flatMap_append, List.flatMap_cons, List.length_append, runSteps,
    List.length_replicate, length_lineSteps] at hlen
  omega

/-- The check of R186 finds what the runs have counted (R187). -/
theorem verifyCounts_countRuns (h : minor < major) (s : State) :
    verifyCounts major minor (countRuns (lineRuns major minor) (0, 0)) s = .go () s := by
  have hmajor := runTicks_lineRuns major minor
  have hminor := runTicks_diagonal_lineRuns h
  simp only [verifyCounts, countRuns, Nat.zero_add]
  exact if_neg (not_or.mpr ⟨not_not.mpr hmajor, not_not.mpr hminor⟩)

/-- When the first run's move raises nothing, a general line raises nothing and is its walk. -/
theorem generalLine_of_go (hd : d.Sound) (hlt : minor < major)
    (hfirst : d.move (firstRun (lineSteps major minor)) s = .go () u) :
    ∃ t, generalLine major minor d s = .go () t ∧ t.fault = s.fault ∧
      (s.fault = 0 → major ≤ 2147483647 →
        execAll ((lineSteps major minor).map d.tick) s = .next t) := by
  obtain ⟨runs, hruns⟩ := exists_lineRuns_eq (minor := minor) (Nat.zero_lt_of_lt hlt)
  have halt : Alternating (lineRuns major minor) := alternating_batch _
  obtain ⟨t, ht⟩ := exists_emitRuns_go hd (hruns ▸ halt) hfirst (0, 0)
  rw [← hruns] at ht
  refine ⟨t, ?_, emitRuns_go_fault ht, fun h hle => ?_⟩
  · rw [generalLine, ht, Flow.bind_go, verifyCounts_countRuns hlt]
  · rw [← flatMap_runSteps_lineRuns]
    exact execAll_of_emitRuns hd h (fun r hr => ⟨batch_pos _ r hr, (lineRuns_le hr).trans hle⟩) ht

/-- When the first run's move raises, so does the line, before any effect. -/
theorem generalLine_of_raise {info : Int} (hlt : minor < major)
    (hfirst : d.move (firstRun (lineSteps major minor)) s = raise .invalidDistance info s) :
    generalLine major minor d s = raise .invalidDistance info s := by
  obtain ⟨runs, hruns⟩ := exists_lineRuns_eq (minor := minor) (Nat.zero_lt_of_lt hlt)
  rw [generalLine, hruns, emitRuns, emitRun_eq, hfirst]
  rfl

end

/-! ### LINE is the walk -/

theorem sext32_ne_zero {w : Word32} (h : w ≠ 0) : sext32 w ≠ 0 := mt (sext32_eq_zero_iff w).mp h

theorem natAbs_sext32_le {w : Word32} (h : sext32 w ≠ minInt32) :
    (sext32 w).natAbs ≤ 2147483647 := by
  have hle := sext32_le w
  have hge : -2147483648 ≤ sext32 w := BitVec.le_toInt w
  unfold minInt32 at h
  omega

/-- The directions of a general line as signs (R180, R181). -/
theorem lineDirs_eq {dx dy : Int} (hx0 : dx ≠ 0) (hy0 : dy ≠ 0) (laser : BitVec 1) :
    lineDirs laser dx dy =
      ⟨if dy.natAbs < dx.natAbs then (if 0 < dx then 1 else 2) else (if 0 < dy then 3 else 4),
        if 0 < dx then 1 else 2, if 0 < dy then 1 else 2, laser⟩ := by
  rw [lineDirs, axisCode_of_ne_zero hx0, axisCode_of_ne_zero hy0, apply_ite xDirCode,
    apply_ite yDirCode]
  rfl

theorem tickWalk_eq {major minor : Nat} (h0 : 0 < minor) (h : minor < major) (d : LineDirs) :
    tickWalk d.laser d.pdir d.sx d.sy major minor = (lineSteps major minor).map d.tick := by
  rw [roundingAndAccumulatorAgree major minor h0 h]
  refine List.map_congr_left fun k _ => ?_
  cases k <;> rfl

theorem keepOr_of_ne_zero {operand : BitVec 2} (h : operand ≠ 0) (modal : BitVec 2) :
    keepOr operand modal = operand := if_neg h

/-- With both sub-directions given, the pending run is continued when all four fields agree. -/
theorem continuesRun_iff {dir : BitVec 3} {laser : BitVec 1} {ax ay : BitVec 2} {s : State}
    (hx : ax ≠ 0) (hy : ay ≠ 0) : ContinuesRun dir laser ax ay s ↔
      dir = s.mDir ∧ laser = s.mLaser ∧ ax = s.mAx ∧ ay = s.mAy := by
  rw [ContinuesRun, keepOr_of_ne_zero hx, keepOr_of_ne_zero hy]

theorem exec_line_of_ok {s : State} (h : s.fault = 0) (laser : BitVec 1) (dx dy : Word32) :
    exec (.line laser dx dy) s = .next (line laser (sext32 dx) (sext32 dy) s).state :=
  runCommand_of_ok h

/-- Settles O51, by whether the move of the first run raises. -/
theorem generalLineIsTheBresenhamWalk : Obligations.GeneralLineIsTheBresenhamWalk := by
  intro laser dx dy s h hdx0 hdy0 hdx hdy habs adx ady sx sy pdir walk run coalesces
  have hx0 := sext32_ne_zero hdx0
  have hy0 := sext32_ne_zero hdy0
  have hx := mt (sext32_eq_minInt32_iff dx).mp hdx
  have hy := mt (sext32_eq_minInt32_iff dy).mp hdy
  have hlt : min adx ady < max adx ady := min_lt_max.mpr habs
  have hpos : 0 < min adx ady := lt_min (Int.natAbs_pos.mpr hx0) (Int.natAbs_pos.mpr hy0)
  have hle : max adx ady ≤ 2147483647 := max_le (natAbs_sext32_le hx) (natAbs_sext32_le hy)
  obtain ⟨d, hd⟩ : ∃ d, d = lineDirs laser (sext32 dx) (sext32 dy) := ⟨_, rfl⟩
  have hsound : d.Sound := hd ▸ lineDirs_sound hx0 hy0 laser
  have hexec : exec (.line laser dx dy) s =
      .next (generalLine (max adx ady) (min adx ady) d s).state := by
    have hline : line laser (sext32 dx) (sext32 dy) s =
        generalLine (max adx ady) (min adx ady) d s :=
      hd ▸ line_general hx0 hy0 hx hy habs laser s
    rw [exec_line_of_ok h, hline]
  rw [lineDirs_eq hx0 hy0] at hd
  have hrun : run = firstRun (lineSteps (max adx ady) (min adx ady)) := by
    rw [roundingAndAccumulatorAgree _ _ hpos hlt]; rfl
  have hcoalesces : coalesces ↔ ContinuesRun (d.dir run.1) d.laser d.sx d.sy s := by
    rw [continuesRun_iff hsound.sx_ne_zero hsound.sy_ne_zero, hd]; rfl
  have hwalk : walk = (lineSteps (max adx ady) (min adx ady)).map d.tick := by
    rw [← tickWalk_eq hpos hlt, hd]; rfl
  refine ⟨fun hfits => ?_, fun hc hover => ?_⟩
  · obtain ⟨u, hu⟩ : ∃ u, d.move run s = .go () u := by
      refine exists_move_go (Int.natCast_nonneg _) fun hrun => ?_
      have := hfits.resolve_left (not_not.mpr (hcoalesces.mpr hrun))
      omega
    rw [hrun] at hu
    obtain ⟨t, ht, hfault, hall⟩ := generalLine_of_go hsound hlt hu
    exact ⟨t, by rw [hexec, ht, Flow.state_go], hwalk ▸ hall h hle, hfault.trans h⟩
  · have hraise : d.move run s = raise .invalidDistance run.2 s :=
      move_of_overflow (hcoalesces.mp hc) (Int.natCast_nonneg _) (by omega)
    conv at hraise => lhs; rw [hrun]
    rw [hexec, generalLine_of_raise hlt hraise, raise_state, if_pos h, wrap32, BitVec.ofInt_natCast]
    rfl

end Sys2Proof.Machine
end

section
/-! SUPPORT. A command that faults has no other effect (spec/60_exceptions.md R257), and its cause is
never ReconstructionMismatch (42_line_rasterizer.md R187). -/

namespace Sys2Proof.Machine

open Sys2Proof.Claim

/-- A command's body leaves FAULT as it was, or it raises before any effect, and not for the check of
42_line_rasterizer.md R186. -/
def RaisesCleanly (x : Flow Unit) (s : State) : Prop :=
  x.state.fault = s.fault ∨ ∃ c info, c ≠ .reconstructionMismatch ∧ x = raise c info s

/-! ### The commands that can raise -/

section
variable {s : State}

theorem raisesCleanly_raise {c : Cause} (h : c ≠ .reconstructionMismatch) (info : Int) (s : State) :
    RaisesCleanly (raise c info s) s := .inr ⟨c, info, h, rfl⟩

theorem raisesCleanly_move (dir : BitVec 3) (dist : Int) (laser : BitVec 1) (ax ay : BitVec 2)
    (s : State) : RaisesCleanly (move dir dist laser ax ay s) s := by
  obtain ⟨hm, -⟩ | ⟨hm, -⟩ | ⟨hm, -⟩ := move_cases dir dist laser ax ay s <;> rw [hm]
  · exact raisesCleanly_raise (by decide) _ s
  · exact .inl rfl
  · exact .inl (startRun_fault ..)

/-- Only the first move of a line can raise. -/
theorem raisesCleanly_generalLine {d : LineDirs} (hd : d.Sound) {major minor : Nat}
    (h : minor < major) (s : State) : RaisesCleanly (generalLine major minor d s) s := by
  obtain ⟨hm, -⟩ | ⟨hm, -⟩ | ⟨hm, -⟩ := move_cases (d.dir (firstRun (lineSteps major minor)).1)
    (firstRun (lineSteps major minor)).2 d.laser d.sx d.sy s
  · rw [generalLine_of_raise h hm]
    exact raisesCleanly_raise (by decide) _ s
  all_goals
    obtain ⟨t, ht, hfault, -⟩ := generalLine_of_go hd h hm
    rw [ht]
    exact .inl hfault

theorem raisesCleanly_line (laser : BitVec 1) (dx dy : Int) (s : State) :
    RaisesCleanly (line laser dx dy s) s := by
  by_cases hmin : dx = minInt32 ∨ dy = minInt32
  · rw [line_of_minInt32 hmin]
    exact raisesCleanly_raise (by decide) _ s
  obtain ⟨hx, hy⟩ := not_or.mp hmin
  by_cases hx0 : dx = 0 <;> by_cases hy0 : dy = 0
  · rw [hx0, hy0, line_zero]
    exact .inl rfl
  · rw [hx0, line_vertical hy0 hy]
    exact raisesCleanly_move ..
  · rw [hy0, line_horizontal hx0 hx]
    exact raisesCleanly_move ..
  by_cases habs : dx.natAbs = dy.natAbs
  · rw [line_diagonal hx0 hx hy habs]
    exact raisesCleanly_move ..
  · rw [line_general hx0 hy0 hx hy habs]
    exact raisesCleanly_generalLine (lineDirs_sound hx0 hy0 laser) (min_lt_max.mpr habs) s

theorem raisesCleanly_spdenc (c : Params) (board : BitVec 4) (fgv : BitVec 1) (fgear : BitVec 3)
    (rstep : BitVec 10) (feed ratio : Word32) (s : State) :
    RaisesCleanly (spdenc c board fgv fgear rstep feed ratio s) s := by
  unfold spdenc
  split
  · exact raisesCleanly_raise (by decide) _ s
  split
  · exact .inl (writeSpeedToken_fault ..)
  · exact raisesCleanly_raise (by decide) _ s

theorem raisesCleanly_ite {p : Prop} [Decidable p] {x y : Flow Unit} (hx : RaisesCleanly x s)
    (hy : RaisesCleanly y s) : RaisesCleanly (if p then x else y) s := by
  split
  · exact hx
  · exact hy

/-! ### All instructions -/

/-- What a command leaves when nothing had faulted: no fault, or its own, which is not the check's, and
nothing else (R257). -/
def FaultsCleanly (s t : State) : Prop :=
  t.fault = 0 ∨ ∃ c info, c ≠ Cause.reconstructionMismatch ∧ t = withFault c.code info s

theorem faultsCleanly_of_runCommand {body : State → Flow Unit} {t : State} (h : s.fault = 0)
    (hexec : runCommand body s = .next t) (hbody : RaisesCleanly (body s) s) :
    FaultsCleanly s t := by
  rw [runCommand_of_ok h] at hexec
  cases hexec
  obtain hfault | ⟨c, info, hc, hraise⟩ := hbody
  · exact .inl (hfault.trans h)
  · refine .inr ⟨c, wrap32 info, hc, ?_⟩
    rw [hraise, raise_state, if_pos h]

theorem faultsCleanly_of_putOutput {bs : List Byte} {t : State} (h : s.fault = 0)
    (hexec : putOutput bs s = .next t) : FaultsCleanly s t :=
  faultsCleanly_of_runCommand h hexec (.inl (emitList_fault bs s))

theorem exec_faultsCleanly {i : Instr} {t : State} (h : s.fault = 0)
    (hexec : exec i s = .next t) : FaultsCleanly s t := by
  unfold exec at hexec
  cases i with
  | jobrst => cases hexec; exact .inl (jobReset_fault s)
  | spdenc => exact faultsCleanly_of_runCommand h hexec (raisesCleanly_spdenc ..)
  | spddec =>
    refine faultsCleanly_of_runCommand h hexec ?_
    split
    · exact .inl rfl
    · exact raisesCleanly_raise (by decide) _ s
  | tokput =>
    exact faultsCleanly_of_runCommand h hexec
      (raisesCleanly_ite (raisesCleanly_raise (by decide) _ s) (.inl (pushToken_fault ..)))
  | move =>
    exact faultsCleanly_of_runCommand h hexec
      (raisesCleanly_ite (raisesCleanly_move ..) (raisesCleanly_raise (by decide) _ s))
  | dist =>
    exact faultsCleanly_of_runCommand h hexec
      (raisesCleanly_ite (raisesCleanly_raise (by decide) _ s) (.inl (emitList_fault ..)))
  | line => exact faultsCleanly_of_runCommand h hexec (raisesCleanly_line ..)
  | reserved => exact faultsCleanly_of_runCommand h hexec (raisesCleanly_raise (by decide) _ s)
  | nop | v2s | s2v | gearsel | tokclr | crcclr | crcupd =>
    exact faultsCleanly_of_runCommand h hexec (.inl rfl)
  | flush => exact faultsCleanly_of_runCommand h hexec (.inl (flush_fault s))
  | emit => exact faultsCleanly_of_runCommand h hexec (.inl (emit_fault ..))
  | tokemit => exact faultsCleanly_of_runCommand h hexec (.inl (emitList_fault ..))
  | fclose => exact faultsCleanly_of_runCommand h hexec (.inl (closeFrame_fault s))
  | frame =>
    exact faultsCleanly_of_runCommand h hexec
      (.inl ((emitList_fault ..).trans (closeFrame_fault s)))
  | _ => exact faultsCleanly_of_putOutput h hexec

end

/-- Settles O12. -/
theorem faultingCommandChangesNothingElse : Obligations.FaultingCommandChangesNothingElse := by
  intro i s t h hexec hfault
  obtain hok | ⟨c, info, -, rfl⟩ := exec_faultsCleanly h hexec
  · exact absurd hok hfault
  · rfl

theorem Cause.code_eq_two_iff (c : Cause) : c.code = 2 ↔ c = .reconstructionMismatch := by
  cases c <;> decide

/-- Settles O13: the one command with that check, LINE, always passes it. -/
theorem reconstructionMismatchIsUnreachable :
    Obligations.ReconstructionMismatchIsUnreachable := by
  intro i s t h hexec htwo
  obtain hok | ⟨c, info, hc, rfl⟩ := exec_faultsCleanly h hexec
  · exact absurd (hok.symm.trans htwo) (by decide)
  · exact hc ((Cause.code_eq_two_iff c).mp htwo)

end Sys2Proof.Machine
end

section
/-! SUPPORT. What CRC-8 detects and the commands FCLOSE, CRCCLR and CRCUPD
(spec/44_crc8_framer.md R215 to R224). -/

namespace Sys2Proof.Machine

open Sys2Proof.Claim
open Function (Injective)

/-! ### CRC-8 tells bytes apart (R224) -/

/-- One iteration of `Crc8Byte` on the register with the byte already folded in: the shift register
alone (R215). -/
def crcShift (x : Byte) : Byte := (x >>> 1) ^^^ if x.getLsbD 0 then 0x8C else 0x00

/-- An iteration acts on the register and the byte through their exclusive or only. -/
theorem crcStep_xor_shiftRight (byte c : Byte) :
    crcStep byte c 0 ^^^ (byte >>> 1) = crcShift (c ^^^ byte) := by
  have hbit : (c ^^^ byte).getLsbD 0 = true ↔ ¬ c.getLsbD 0 = byte.getLsbD 0 := by
    rw [BitVec.getLsbD_xor, Bool.xor_iff_ne]
  rw [crcStep, crcShift, BitVec.ushiftRight_xor_distrib, if_congr hbit rfl rfl, ite_not]
  ac_rfl

theorem crc8Bits_eq_iterate (k : Nat) (crc byte : Byte) :
    crc8Bits k crc byte ^^^ (byte >>> k) = crcShift^[k] (crc ^^^ byte) := by
  induction k generalizing crc byte with
  | zero => rw [crc8Bits, BitVec.ushiftRight_zero, Function.iterate_zero_apply]
  | succ k ih =>
    rw [crc8Bits_succ, Nat.add_comm k 1, BitVec.shiftRight_add, ih, crcStep_xor_shiftRight,
      Nat.add_comm 1 k, Function.iterate_succ_apply]

theorem crc8Byte_eq_iterate (crc byte : Byte) :
    crc8Byte crc byte = crcShift^[8] (crc ^^^ byte) := by
  rw [← crc8Bits_eq_iterate, BitVec.ushiftRight_eq_zero (le_refl 8), BitVec.xor_zero, crc8Byte]

/-- The top bit after an iteration is the bit shifted out: 0x8C has its top bit set. -/
theorem crcShift_getLsbD_seven (x : Byte) : (crcShift x).getLsbD 7 = x.getLsbD 0 := by
  rw [crcShift, BitVec.getLsbD_xor, BitVec.getLsbD_ushiftRight,
    BitVec.getLsbD_of_ge x _ (by decide)]
  cases x.getLsbD 0 <;> rfl

/-- No iteration loses information: the bit shifted out is kept in the top bit. -/
theorem crcShift_injective : Injective crcShift := by
  intro x y h
  have hlow : x.getLsbD 0 = y.getLsbD 0 := by
    rw [← crcShift_getLsbD_seven, h, crcShift_getLsbD_seven]
  have hhigh : x >>> 1 = y >>> 1 := by
    rw [crcShift, crcShift, hlow] at h
    exact (BitVec.xor_left_inj _).mp h
  refine BitVec.eq_of_getLsbD_eq fun i _ => ?_
  cases i with
  | zero => exact hlow
  | succ i =>
    have hbit := congrArg (BitVec.getLsbD · i) hhigh
    simpa [Nat.add_comm] using hbit

theorem crc8Byte_injective_crc (byte : Byte) : Injective (crc8Byte · byte) := by
  intro c c' h
  simp only [crc8Byte_eq_iterate] at h
  exact (BitVec.xor_left_inj _).mp (crcShift_injective.iterate 8 h)

theorem crc8Byte_injective_byte (crc : Byte) : Injective (crc8Byte crc) := by
  intro b b' h
  simp only [crc8Byte_eq_iterate] at h
  exact (BitVec.xor_right_inj _).mp (crcShift_injective.iterate 8 h)

/-- Registers that differ still differ after any bytes that follow. -/
theorem foldl_crc8Byte_injective (bs : List Byte) : Injective (bs.foldl crc8Byte) := by
  induction bs with
  | nil => exact fun _ _ h => h
  | cons b bs ih => exact ih.comp (crc8Byte_injective_crc b)

/-- Two lists that differ in one byte have the same CRC only if that byte is the same. -/
theorem crc8_injective_byte (before after : List Byte) :
    Injective fun b => crc8 (before ++ b :: after) := by
  intro b b' h
  simp only [crc8, List.foldl_append, List.foldl_cons] at h
  exact crc8Byte_injective_byte _ (foldl_crc8Byte_injective after h)

theorem xor_bit_ne (b : Byte) {k : Nat} (hk : k < 8) : b ≠ b ^^^ (1#8 <<< k) := by
  intro h
  have hbit := congrArg (BitVec.getLsbD · k) h
  simp [hk] at hbit

/-- Settles O54: the changed byte differs, and the CRC tells any two bytes in its place apart. -/
theorem crcDetectsEverySingleBitChange : Obligations.CrcDetectsEverySingleBitChange :=
  ⟨crc8_eq_crcOfBytes, fun before after b _ hk =>
    (crc8_injective_byte before after).ne (xor_bit_ne b hk)⟩

/-! ### CRCCLR and CRCUPD (R222, R223) -/

/-- The check value: the CRC of `123456789` in ASCII (R217). -/
theorem crc8_check_value :
    crc8 [0x31, 0x32, 0x33, 0x34, 0x35, 0x36, 0x37, 0x38, 0x39] = 0xA1 := by
  simp [crc8, crc8Byte, crc8Bits, crcInit]

theorem crc8_concat (bs : List Byte) (b : Byte) : crc8 (bs ++ [b]) = crc8Byte (crc8 bs) b :=
  List.foldl_concat ..

section
variable {s : State} (h : s.fault = 0)
include h

theorem exec_crcclr_of_ok : exec .crcclr s = .next { s with rcrc := crcInit } :=
  runCommand_of_ok (body := fun s => .go () { s with rcrc := crcInit }) h

theorem exec_crcupd_of_ok (b : Byte) :
    exec (.crcupd b) s = .next { s with rcrc := crc8Byte s.rcrc b } :=
  runCommand_of_ok (body := fun s => .go () { s with rcrc := crc8Byte s.rcrc b }) h

theorem execAll_map_crcupd (bs : List Byte) :
    execAll (bs.map .crcupd) s = .next { s with rcrc := bs.foldl crc8Byte s.rcrc } := by
  induction bs generalizing s with
  | nil => rfl
  | cons b bs ih =>
    simp only [List.map_cons, execAll, exec_crcupd_of_ok h, List.foldl_cons]
    exact ih h

theorem execAll_crcclr_map_crcupd (bs : List Byte) :
    execAll (.crcclr :: bs.map .crcupd) s = .next { s with rcrc := crc8 bs } := by
  simp only [execAll, exec_crcclr_of_ok h]
  exact execAll_map_crcupd (s := { s with rcrc := crcInit }) h bs

end

/-- Settles O55: the two commands, and their fold over a list. -/
theorem crcCommandsComputeTheCrc : Obligations.CrcCommandsComputeTheCrc := by
  refine ⟨fun w hop => by rw [decode, hop]; rfl, fun w hop => by rw [decode, hop]; rfl,
    crc8Byte_eq_crcOfByte, rfl, fun bs b => ?_, crc8_check_value, fun s h =>
    ⟨exec_crcclr_of_ok h, fun b => ?_, execAll_crcclr_map_crcupd h⟩⟩
  · rw [crc8_concat, crc8Byte_eq_crcOfByte]
  · rw [exec_crcupd_of_ok h, crc8Byte_eq_crcOfByte]

/-! ### FCLOSE (R220) -/

theorem exec_fclose_of_ok {s : State} (h : s.fault = 0) : exec .fclose s = .next (closeFrame s) :=
  runCommand_of_ok (body := fun s => .go () (closeFrame s)) h

/-- Settles O52, by whether a partial frame is held. -/
theorem fclosePadsThePartialFrame : Obligations.FclosePadsThePartialFrame := by
  refine ⟨fun w hop => by rw [decode, hop]; rfl, fun s h => ?_⟩
  rw [exec_fclose_of_ok h]
  refine ⟨fun hzero => ?_, fun hpartial => ?_⟩
  · rw [closeFrame, if_pos hzero]
  · rw [closeFrame, if_neg hpartial]
    simp only [emitFrame, padFrame, filler]

end Sys2Proof.Machine
end

section
/-! SUPPORT. NOP (spec/45_system.md R235). -/

namespace Sys2Proof.Machine

/-- The body of NOP is empty, so the command leaves what its refusal would leave. -/
theorem exec_nop (s : State) : exec .nop s = .next s := by
  by_cases hfault : s.fault = 0
  · exact runCommand_of_ok (body := fun s => .go () s) hfault
  · exact exec_of_faulted nofun hfault

/-- Settles O21. -/
theorem nopChangesNothing : Obligations.NopChangesNothing :=
  ⟨fun w hop => by rw [decode, hop]; rfl, exec_nop⟩

end Sys2Proof.Machine
end

section
/-! SUPPORT. Taking a fault, the refusal of commands while one is held, and which commands raise which
fault (spec/60_exceptions.md R250 to R257). -/

namespace Sys2Proof.Machine

open Sys2Proof.Claim

/-! ### The first fault (R255, R256) -/

theorem faultO_eq_true_iff (s : State) : s.faultO = true ↔ s.fault ≠ 0 := by
  rw [State.faultO, faulted_eq, decide_eq_true_iff]

theorem raise_bind {α β : Type} (c : Cause) (info : Int) (s : State) (f : α → State → Flow β) :
    (raise c info s).bind f = raise c info s := rfl

/-- Settles O9: what a raise leaves, by whether a fault is held. -/
theorem raiseKeepsTheFirstFault : Obligations.RaiseKeepsTheFirstFault :=
  ⟨fun c info s h => (raise_state c info s).trans (if_pos h),
    fun c info s h => (raise_state c info s).trans (if_neg h), faultO_eq_true_iff, raise_bind⟩

/-- Settles O10: every instruction but JOBRST begins with the test of FAULT. -/
theorem faultedBlockRefusesCommands : Obligations.FaultedBlockRefusesCommands := by
  refine ⟨fun i s hf hi => exec_of_faulted hi hf, fun s w rest hqueue hf hw => ?_⟩
  rw [step_of_queue_cons hqueue]
  exact exec_of_faulted hw hf

/-! ### The one fault a command's body can raise -/

/-- A command's body leaves FAULT as it was, or it raises this fault before any effect. -/
def RaisesOnly (c : Cause) (info : Int) (x : Flow Unit) (s : State) : Prop :=
  x.state.fault = s.fault ∨ x = raise c info s

theorem raisesOnly_move (dir : BitVec 3) (dist : Int) (laser : BitVec 1) (ax ay : BitVec 2)
    (s : State) : RaisesOnly .invalidDistance dist (move dir dist laser ax ay s) s := by
  obtain ⟨hm, -⟩ | ⟨hm, -⟩ | ⟨hm, -⟩ := move_cases dir dist laser ax ay s <;> rw [hm]
  · exact .inr rfl
  · exact .inl rfl
  · exact .inl (startRun_fault ..)

/-- Only the move of the first run can raise. -/
theorem raisesOnly_generalLine {d : LineDirs} (hd : d.Sound) {major minor : Nat}
    (h : minor < major) (s : State) :
    RaisesOnly .invalidDistance (firstRun (lineSteps major minor)).2
      (generalLine major minor d s) s := by
  obtain ⟨hm, -⟩ | ⟨hm, -⟩ | ⟨hm, -⟩ := move_cases (d.dir (firstRun (lineSteps major minor)).1)
    (firstRun (lineSteps major minor)).2 d.laser d.sx d.sy s
  · exact .inr (generalLine_of_raise h hm)
  all_goals
    obtain ⟨t, ht, hfault, -⟩ := generalLine_of_go hd h hm
    rw [ht]
    exact .inl hfault

section
variable {dx dy : Word32}

theorem firstMoveTicks_of_horizontal (h : sext32 dy = 0) :
    firstMoveTicks dx dy = (sext32 dx).natAbs := by
  have hady : (sext32 dy).natAbs = 0 := Int.natAbs_eq_zero.mpr h
  refine (if_pos (.inr (.inl hady))).trans ?_
  exact max_eq_left (hady.trans_le (Nat.zero_le _))

theorem firstMoveTicks_of_vertical (h : sext32 dx = 0) :
    firstMoveTicks dx dy = (sext32 dy).natAbs := by
  have hadx : (sext32 dx).natAbs = 0 := Int.natAbs_eq_zero.mpr h
  refine (if_pos (.inl hadx)).trans ?_
  exact max_eq_right (hadx.trans_le (Nat.zero_le _))

theorem firstMoveTicks_of_diagonal (h : (sext32 dx).natAbs = (sext32 dy).natAbs) :
    firstMoveTicks dx dy = (sext32 dx).natAbs :=
  (if_pos (.inr (.inr h))).trans (max_eq_left h.ge)

/-- The first run by the accumulator is the first run by rounding (42_line_rasterizer.md R184). -/
theorem firstMoveTicks_of_general (hx0 : sext32 dx ≠ 0) (hy0 : sext32 dy ≠ 0)
    (habs : (sext32 dx).natAbs ≠ (sext32 dy).natAbs) :
    firstMoveTicks dx dy =
      (firstRun (lineSteps (max (sext32 dx).natAbs (sext32 dy).natAbs)
        (min (sext32 dx).natAbs (sext32 dy).natAbs))).2 := by
  have hadx : (sext32 dx).natAbs ≠ 0 := Int.natAbs_ne_zero.mpr hx0
  have hady : (sext32 dy).natAbs ≠ 0 := Int.natAbs_ne_zero.mpr hy0
  rw [roundingAndAccumulatorAgree _ _ (lt_min hadx.pos hady.pos) (min_lt_max.mpr habs)]
  exact if_neg (not_or.mpr ⟨hadx, not_or.mpr ⟨hady, habs⟩⟩)

/-- Only the first move of a line can raise (R257). -/
theorem raisesOnly_line (hx : sext32 dx ≠ minInt32) (hy : sext32 dy ≠ minInt32)
    (laser : BitVec 1) (s : State) :
    RaisesOnly .invalidDistance (firstMoveTicks dx dy)
      (line laser (sext32 dx) (sext32 dy) s) s := by
  by_cases hx0 : sext32 dx = 0 <;> by_cases hy0 : sext32 dy = 0
  · rw [hx0, hy0, line_zero]
    exact .inl rfl
  · rw [firstMoveTicks_of_vertical hx0, hx0, line_vertical hy0 hy]
    exact raisesOnly_move ..
  · rw [firstMoveTicks_of_horizontal hy0, hy0, line_horizontal hx0 hx]
    exact raisesOnly_move ..
  by_cases habs : (sext32 dx).natAbs = (sext32 dy).natAbs
  · rw [firstMoveTicks_of_diagonal habs, line_diagonal hx0 hx hy habs]
    exact raisesOnly_move ..
  · rw [firstMoveTicks_of_general hx0 hy0 habs, line_general hx0 hy0 hx hy habs]
    exact raisesOnly_generalLine (lineDirs_sound hx0 hy0 laser) (min_lt_max.mpr habs) s

end

theorem raisesOnly_spdenc (c : Params) (board : BitVec 4) (fgv : BitVec 1) (fgear : BitVec 3)
    (rstep : BitVec 10) (feed ratio : Word32) (s : State) :
    RaisesOnly .illegalCommand 0x10 (spdenc c board fgv fgear rstep feed ratio s) s := by
  unfold spdenc
  split
  · exact .inr rfl
  split
  · exact .inl (writeSpeedToken_fault ..)
  · exact .inr rfl

/-! ### The faults of each instruction (R250 to R253) -/

/-- The causes an instruction can raise from `s`, with their information words. -/
inductive MayRaise (s : State) : Instr → Cause → Word32 → Prop
  | moveDistance {d : BitVec 3} {l : BitVec 1} {x y : BitVec 2} (n : Word32) :
      MayRaise s (.move d l x y n) .invalidDistance n
  | dist (n : Word32) : MayRaise s (.dist n) .invalidDistance n
  | lineOperand {l : BitVec 1} {dx dy : Word32} (h : dx = 0x80000000 ∨ dy = 0x80000000) :
      MayRaise s (.line l dx dy) .invalidDistance 0x80000000
  | lineFirstMove {l : BitVec 1} {dx dy : Word32} (h : ¬(dx = 0x80000000 ∨ dy = 0x80000000)) :
      MayRaise s (.line l dx dy) .invalidDistance (BitVec.ofNat 32 (firstMoveTicks dx dy))
  | spddec : MayRaise s .spddec .malformedToken (s.tokLen.setWidth 32)
  | spdenc {b : BitVec 4} {v : BitVec 1} {g : BitVec 3} {r : BitVec 10} {f q : Word32} :
      MayRaise s (.spdenc b v g r f q) .illegalCommand 0x10
  | tokput {b : Byte} : MayRaise s (.tokput b) .illegalCommand 0x19
  | moveFields {d : BitVec 3} {l : BitVec 1} {x y : BitVec 2} {n : Word32} :
      MayRaise s (.move d l x y n) .illegalCommand 0x20
  | reserved (op : BitVec 8) : MayRaise s (.reserved op) .illegalCommand (op.setWidth 32)

/-- What `i` leaves behind `s` when nothing had faulted: no fault, or one of its own. -/
def FaultsAsListed (s : State) (i : Instr) (t : State) : Prop :=
  t.fault = 0 ∨ ∃ c info, MayRaise s i c info ∧ t = withFault c.code info s

section
variable {s t : State} {i : Instr} {body : State → Flow Unit}

theorem faultsAsListed_of_raisesOnly {c : Cause} {info : Int} {w : Word32} (h : s.fault = 0)
    (hexec : runCommand body s = .next t) (hbody : RaisesOnly c info (body s) s)
    (hinfo : wrap32 info = w) (hmay : MayRaise s i c w) : FaultsAsListed s i t := by
  obtain hfault | hraise := hbody
  · rw [runCommand_of_ok h] at hexec
    cases hexec
    exact .inl (hfault.trans h)
  · rw [runCommand_raise h hraise] at hexec
    cases hexec
    exact .inr ⟨c, w, hmay, hinfo ▸ rfl⟩

theorem faultsAsListed_of_keeps (h : s.fault = 0) (hexec : runCommand body s = .next t)
    (hbody : (body s).state.fault = s.fault) : FaultsAsListed s i t := by
  rw [runCommand_of_ok h] at hexec
  cases hexec
  exact .inl (hbody.trans h)

theorem faultsAsListed_of_putOutput {bs : List Byte} (h : s.fault = 0)
    (hexec : putOutput bs s = .next t) : FaultsAsListed s i t :=
  faultsAsListed_of_keeps h hexec (emitList_fault bs s)

/-- MOVE looks at its fields, then makes the move (R258). -/
theorem faultsAsListed_of_execMove {dir : BitVec 3} {laser : BitVec 1} {ax ay : BitVec 2}
    {n : Word32} (h : s.fault = 0) (hexec : execMove dir laser ax ay n s = .next t) :
    FaultsAsListed s (.move dir laser ax ay n) t := by
  by_cases hlegal : moveFieldsLegal dir ax ay = true
  · refine faultsAsListed_of_raisesOnly h hexec ?_ (wrap32_sext32 n) (.moveDistance n)
    rw [if_pos hlegal]
    exact raisesOnly_move ..
  · exact faultsAsListed_of_raisesOnly h hexec (.inr (if_neg hlegal)) rfl .moveFields

theorem faultsAsListed_of_execLine {laser : BitVec 1} {dx dy : Word32} (h : s.fault = 0)
    (hexec : execLine laser dx dy s = .next t) : FaultsAsListed s (.line laser dx dy) t := by
  by_cases hmin : dx = 0x80000000 ∨ dy = 0x80000000
  · have hmin' := hmin
    rw [← sext32_eq_minInt32_iff, ← sext32_eq_minInt32_iff] at hmin'
    exact faultsAsListed_of_raisesOnly h hexec (.inr (line_of_minInt32 hmin' laser s))
      rfl (.lineOperand hmin)
  · obtain ⟨hx, hy⟩ := not_or.mp hmin
    rw [← sext32_eq_minInt32_iff] at hx hy
    exact faultsAsListed_of_raisesOnly h hexec (raisesOnly_line hx hy laser s)
      (BitVec.ofInt_natCast ..) (.lineFirstMove hmin)

theorem exec_faultsAsListed (h : s.fault = 0) (hexec : exec i s = .next t) :
    FaultsAsListed s i t := by
  unfold exec at hexec
  cases i with
  | jobrst => cases hexec; exact .inl (jobReset_fault s)
  | spdenc => exact faultsAsListed_of_raisesOnly h hexec (raisesOnly_spdenc ..) rfl .spdenc
  | spddec =>
    refine faultsAsListed_of_raisesOnly h hexec ?_ (wrap32_toNat s.tokLen) .spddec
    split
    · exact .inl rfl
    · exact .inr rfl
  | tokput =>
    refine faultsAsListed_of_raisesOnly (info := 0x19) h hexec ?_ rfl .tokput
    split
    · exact .inr rfl
    · exact .inl (pushToken_fault ..)
  | move => exact faultsAsListed_of_execMove h hexec
  | dist n =>
    refine faultsAsListed_of_raisesOnly h hexec ?_ (wrap32_sext32 n) (.dist n)
    split
    · exact .inr rfl
    · exact .inl (emitList_fault ..)
  | line => exact faultsAsListed_of_execLine h hexec
  | reserved op =>
    exact faultsAsListed_of_raisesOnly h hexec (.inr rfl) (wrap32_toNat op) (.reserved op)
  | nop | v2s | s2v | gearsel | tokclr | crcclr | crcupd =>
    exact faultsAsListed_of_keeps h hexec rfl
  | flush => exact faultsAsListed_of_keeps h hexec (flush_fault s)
  | emit => exact faultsAsListed_of_keeps h hexec (emit_fault ..)
  | tokemit => exact faultsAsListed_of_keeps h hexec (emitList_fault ..)
  | fclose => exact faultsAsListed_of_keeps h hexec (closeFrame_fault s)
  | frame =>
    exact faultsAsListed_of_keeps h hexec ((emitList_fault ..).trans (closeFrame_fault s))
  | _ => exact faultsAsListed_of_putOutput h hexec

end

/-- Settles O14, one case for each fault in the list. -/
theorem faultsComeOnlyFromTheirCommands : Obligations.FaultsComeOnlyFromTheirCommands := by
  intro i s t h hexec hfault
  obtain hok | ⟨c, info, hmay, rfl⟩ := exec_faultsAsListed h hexec
  · exact absurd hok hfault
  cases hmay with
  | moveDistance n => exact .inl ⟨rfl, .inl ⟨_, _, _, _, _, rfl, rfl⟩⟩
  | dist n => exact .inl ⟨rfl, .inr (.inl ⟨_, rfl, rfl⟩)⟩
  | lineOperand hmin => exact .inl ⟨rfl, .inr (.inr ⟨_, _, _, rfl, (if_pos hmin).symm⟩)⟩
  | lineFirstMove hmin => exact .inl ⟨rfl, .inr (.inr ⟨_, _, _, rfl, (if_neg hmin).symm⟩)⟩
  | spddec => exact .inr (.inl ⟨rfl, rfl, rfl⟩)
  | spdenc => exact .inr (.inr ⟨rfl, .inl ⟨_, _, _, _, _, _, rfl, rfl⟩⟩)
  | tokput => exact .inr (.inr ⟨rfl, .inr (.inl ⟨_, rfl, rfl⟩)⟩)
  | moveFields => exact .inr (.inr ⟨rfl, .inr (.inr (.inl ⟨_, _, _, _, _, rfl, rfl⟩))⟩)
  | reserved op => exact .inr (.inr ⟨rfl, .inr (.inr (.inr ⟨_, rfl, rfl⟩))⟩)

end Sys2Proof.Machine
end
